-- ==== Sys2Proof/Word.lean ====
section
/-! DEFINITION. The word types of the Forsul 740: what its manual treats as bits. -/

namespace Sys2Proof

/-- One byte of a link message or of a block. -/
abbrev Byte := BitVec 8

/-- The 512 data bytes of a block as one polynomial of 4,096 bits, the first recorded byte first
(most significant), each byte with its most significant bit first (R140). -/
abbrev BlockData := BitVec 4096

/-- A 16-bit cyclic check (R140, R141). -/
abbrev Check16 := BitVec 16

end Sys2Proof
end

