-- ==== Sys2Proof/Terms.lean ====
section
/-! DEFINITION. The nouns of the manual as types: ports, drives, tracks, identity fields, spare entries,
requests, link exchanges, straps, and what a sector period brings in from outside. Types only. -/

namespace Sys2Proof

/-- The four Port Units (R62). -/
inductive Port where
  | A | B | C | D
deriving DecidableEq, Repr, Inhabited

/-- A drive position of the string, 0–7. -/
abbrev DriveNo := Fin 8

/-- A cylinder and head, logical or physical as the place of use says. -/
structure Track where
  cyl : Nat
  head : Nat
deriving DecidableEq, Repr, Inhabited

/-- Track condition of an identity field (1.1.1). -/
inductive TrackCondition where
  | normal | defective | alternate
deriving DecidableEq, Repr, Inhabited

/-- The items of the identity field in front of a block (1.1.1), without its check. -/
structure IdField where
  cyl : Nat
  head : Nat
  block : Nat
  condition : TrackCondition
  link : Option Track
  lost : Bool
deriving DecidableEq, Repr, Inhabited

/-- State of a Spare Table entry (R22). -/
inductive EntryState where
  | committed | copying
deriving DecidableEq, Repr, Inhabited

/-- One entry of a Spare Table (R22). `track` is a logical track number. -/
structure SpareEntry where
  track : Nat
  alternate : Nat
  state : EntryState
  former : Option Nat
deriving DecidableEq, Repr, Inhabited

/-- The map record of a drive (R30). `checkAgrees` is the record check: whether it agrees with the items. -/
structure MapRecord where
  entryCount : Nat
  entries : List SpareEntry
  retired : List Nat
  checkAgrees : Bool
deriving DecidableEq, Repr, Inhabited

/-- What stands in the 512 data bytes of a block. The manual gives the items of the map record but not where
they lie in its four blocks (R30), so a part of a record is kept as that part; `contentData` in
Machine/Checks.lean gives its bytes (assumption 9). -/
inductive Content where
  | bytes (d : BlockData)
  | mapPart (r : MapRecord) (part : Nat)
deriving DecidableEq, Repr, Inhabited

/-- A recorded check. `generated` is the check the unit generates, `complemented` its complement (R140), `raw`
any other sixteen bits. The word each stands for is `checkWord` (Machine/Checks.lean). -/
inductive CheckWord where
  | generated | complemented
  | raw (w : Check16)
deriving DecidableEq, Repr, Inhabited

/-- An identity field as it comes off the surface, with its identity check. -/
structure FieldRead where
  field : IdField
  check : CheckWord
deriving DecidableEq, Repr, Inhabited

/-- The data of a block as it comes off the surface, with the block check after it. -/
structure DataRead where
  content : Content
  check : CheckWord
deriving DecidableEq, Repr, Inhabited

/-- A block as it is recorded on a drive (1.1): identity field with its check, data with its block check. -/
structure Recorded where
  field : FieldRead
  data : DataRead
deriving DecidableEq, Repr, Inhabited

/-- What a mark brings in beside itself (assumptions 7 and 8). `field`: what the head reads as the identity
field of a block that starts at this mark; `data`: what came off for the block that ends at this mark; each
`none` when the surface reads as it was recorded. `hostReady`: by this mark the host has given or taken the
whole block its port carries (R122); `hostData`: the block it has given. -/
structure MarkInput where
  field : Option FieldRead
  data : Option DataRead
  hostReady : Bool
  hostData : BlockData
deriving DecidableEq, Repr, Inhabited

/-- The three kinds of drive request (R70). -/
inductive RequestKind where
  | readBlocks | writeBlocks | spareTrack
deriving DecidableEq, Repr, Inhabited

/-- The six mode flags (11.2). -/
structure ModeFlags where
  noRetry : Bool
  noOffset : Bool
  sparePermit : Bool
  holdPath : Bool
  showRecovered : Bool
  verifyWrite : Bool
deriving DecidableEq, Repr, Inhabited

/-- The fields of a drive request's message, as presented (R76, 11.2). -/
structure DriveRequest where
  tag : Nat
  drive : DriveNo
  cyl : Nat
  head : Nat
  firstBlock : Nat
  count : Nat
  flags : ModeFlags
deriving DecidableEq, Repr, Inhabited

/-- A host exchange: a Request of one of the kinds of 11.2, or a Collect (R63). -/
inductive HostExchange where
  | drive (kind : RequestKind) (m : DriveRequest)
  | sense (tag : Nat) (drive : DriveNo)
  | reserve (tag : Nat) (drive : DriveNo)
  | release (tag : Nat) (drive : DriveNo)
  | resetString (tag : Nat)
  | unknown (kindCode : Nat) (tag : Nat)
  | collect
deriving DecidableEq, Repr, Inhabited

/-- A host exchange as presented on a link. `lingers`: its reply is still being carried over the link when the
step that takes it ends (assumption 19). -/
structure Presented where
  exchange : HostExchange
  lingers : Bool
deriving DecidableEq, Repr, Inhabited

/-- Link class of a port (R48, R185). -/
inductive LinkClass where
  | one | two | three | four
deriving DecidableEq, Repr, Inhabited

/-- The strap bank sampled at power-on (R185). -/
structure Straps where
  installed : Vector Bool 8
  autoSparing : Vector Bool 8
  linkClass : Vector LinkClass 4
  maintenance : Vector Bool 4
deriving DecidableEq, Repr

end Sys2Proof
end

