-- ==== Sys2Proof/Syntax.lean ====
section
/-! DEFINITION. The commands of the Forsul 740: one constructor for each row of spec/opcode_table.json, with the
operands the rules give it. -/

namespace Sys2Proof

/-- The commands of the unit (spec/opcode_table.json). A host exchange carries `lingers`: whether its reply is
still on the link when the step ends (assumption 19). -/
inductive Instr where
  | powerOnReset (straps : Straps)
  | portReset (port : Port)
  | readBlocks (port : Port) (request : DriveRequest) (lingers : Bool)
  | writeBlocks (port : Port) (request : DriveRequest) (lingers : Bool)
  | spareTrack (port : Port) (request : DriveRequest) (lingers : Bool)
  | senseDrive (port : Port) (tag : Nat) (drive : DriveNo) (lingers : Bool)
  | reserveDrive (port : Port) (tag : Nat) (drive : DriveNo) (lingers : Bool)
  | releaseDrive (port : Port) (tag : Nat) (drive : DriveNo) (lingers : Bool)
  | resetString (port : Port) (tag : Nat) (lingers : Bool)
  | unknownKindRequest (port : Port) (kindCode : Nat) (tag : Nat) (lingers : Bool)
  | collect (port : Port) (lingers : Bool)
  | waitingHostExchangeTaken (port : Port)
  | readyRising (drive : DriveNo)
  | readyFalling (drive : DriveNo)
  | positioned (drive : DriveNo) (cyl : Nat)
  | positionFault (drive : DriveNo)
  | writeFault (drive : DriveNo)
  | sectorMark (drive : DriveNo) (input : MarkInput)
  | indexMark (drive : DriveNo) (input : MarkInput)
  | seekTimeout (drive : DriveNo)
  | recalibrationTimeout (drive : DriveNo)
  | windowExpiry (drive : DriveNo)
  | linkTimeout
  | imageServiceStall
  | arbiterGrant
  | exchangeOut
  | mapBufferTaken
  | mapLoadEnd (drive : DriveNo)
  | mapWriteEnd (drive : DriveNo)
  | sparingReadEnd (drive : DriveNo)
  | sparingWriteVerifyEnd (drive : DriveNo)
  | sparingMarkEnd (drive : DriveNo)
  | stringResetComplete
deriving DecidableEq, Repr

end Sys2Proof
end

