-- ==== Sys2Proof/Config.lean ====
section
/-! DEFINITION. What the manual leaves open: free values, opaque constants of which nothing can be proved. -/

namespace Sys2Proof

/-- FREE VALUE (assumption 6): the data and block check left on the disk by a recording that was cut off or
that ended in Write Fault. -/
opaque Config.disturbedData : Nat → DataRead

/-- FREE VALUE (assumption 6): the identity field left on the disk by such a recording when it was recording the
identity field too. -/
opaque Config.disturbedField : Nat → FieldRead

/-- FREE VALUE (assumption 37): what the Image Area slot of a block tagged UNREADABLE holds. R140 has it recorded
"whatever that holds". -/
opaque Config.unreadableSlot : Nat → BlockData

/-- FREE VALUE (assumption 9): the 512 bytes of one part, 0–3, of a map record. R30 gives the record's items and
no layout for them. -/
opaque Config.mapBlock : MapRecord → Nat → BlockData

/-- FREE VALUE (assumption 9): the map record that four blocks of plain bytes read as. -/
opaque Config.foreignMap : List Content → MapRecord

/-- FREE VALUE (assumption 10): the bits of an identity field in the order in which its check takes them. R141
gives the items and no layout for them. -/
opaque Config.fieldBits : IdField → List Bool

end Sys2Proof
end

