-- ==== Sys2Proof/Machine/State.lean ====
section
/-! DEFINITION. The state of the unit, block by block of the manual's block diagram, and its value after power-on
reset. Plain data throughout. -/

namespace Sys2Proof.Machine

/-! ## Positioner Control -/

/-- The nine drive states (1.4). -/
inductive DriveState where
  | offline | loadingMap | idle | seeking | orienting | connected | recalibrating | sparing | faulted
deriving DecidableEq, Repr, Inhabited

/-- Head offset (R4). -/
inductive Offset where
  | none | plus | minus
deriving DecidableEq, Repr, Inhabited

/-- Map state of a drive (R24). -/
inductive MapState where
  | none | loaded | degraded
deriving DecidableEq, Repr, Inhabited

/-- The seek timer (R5): stopped, or running with one of its two limits. -/
inductive SeekTimer where
  | stopped | ms120 | ms500
deriving DecidableEq, Repr, Inhabited

/-- Names a Request Queue entry: no two entries have the same port and tag (R78). -/
structure EntryRef where
  port : Port
  tag : Nat
deriving DecidableEq, Repr, Inhabited

/-- A drive record (R5). The last four items are the model's own: the deferred dispatch choice of R43, whether
a reset has taken away the work in hand (R19, R20), whether a missed block boundary of a mismatch recovery is
still to be counted (R110), and the kind of limit of the positioning command whose answer a map load still
awaits after a string reset has stopped its timer (R19, assumption 13). -/
structure DriveRecord where
  installed : Bool
  autoSparing : Bool
  state : DriveState
  cylinder : Nat
  head : Nat
  angle : Nat
  rotationKnown : Bool
  offset : Offset
  holder : Option Port
  mapState : MapState
  dispatched : Option EntryRef
  target : Option Nat
  timer : SeekTimer
  recalCount : Nat
  mismatch : Option Track
  deferred : Bool
  orphaned : Bool
  boundaryMissed : Bool
  loadAwaits : SeekTimer
deriving DecidableEq, Repr

/-- Arming state of a reconnect window (R56). -/
inductive ArmingState where
  | disarmed | waiting | pending
deriving DecidableEq, Repr, Inhabited

/-- The window arming beside each drive record (R56). -/
structure Arming where
  state : ArmingState
  block : Nat
  sector : Nat
  hold : Bool
deriving DecidableEq, Repr

/-! ## Port Units and the Request Queue -/

/-- Link exchange state (4.2). -/
inductive LinkState where
  | idle | exchange | data
deriving DecidableEq, Repr, Inhabited

/-- The condition names, in the order of their bits (11.4). -/
inductive Condition where
  | dataCheck | idMismatch | range | lostBlock | recovered | alternateUsed | linkMismatch
  | positionFault | writeFault | linkTimeout | verifyFailed | alternatesExhausted
  | sparingUnavailable | driveLost
deriving DecidableEq, Repr, Inhabited

/-- Outcomes of a completion record (11.4). -/
inductive Outcome where
  | normal | recovered | check | withdrawn | notReady
deriving DecidableEq, Repr, Inhabited

/-- A completion record (R176). -/
structure CompletionRecord where
  tag : Nat
  drive : DriveNo
  kind : RequestKind
  outcome : Outcome
  conditions : List Condition
  transferred : Nat
  retries : Nat
  revsLost : Nat
  relocated : Nat
deriving DecidableEq, Repr

/-- State of a Request Queue entry (R77). -/
inductive EntryStatus where
  | queued | dispatched | held
deriving DecidableEq, Repr, Inhabited

/-- Pass-through marks (R80). -/
inductive PassMark where
  | range | withdrawn | notReady
deriving DecidableEq, Repr, Inhabited

/-- A Request Queue entry (R76). `orderTrack` is the sparing order reference: the logical track of the SPARE
order for the entry's drive that it refers to. -/
structure Entry where
  port : Port
  kind : RequestKind
  request : DriveRequest
  bypass : Nat
  status : EntryStatus
  mark : Option PassMark
  slot : Option (Fin 9)
  orderTrack : Option Nat
deriving DecidableEq, Repr

/-- A string reset in progress (R81). `requester` is the port and tag its Answer is owed to; none once a port
reset of that port has ended the exchange (R82). -/
structure StringReset where
  requester : Option (Port × Nat)
deriving DecidableEq, Repr

/-! ## Path Control -/

/-- The result of a track visit so far (R151). -/
inductive VisitResult where
  | clean | retried | failed
deriving DecidableEq, Repr, Inhabited

/-- A request package (R101), with the visit items of R151. `firstTrack` and `firstBlock` are the request's own,
taken from its entry; `relocTracks` lists the logical tracks that have been counted in `relocated` (R104, R179). -/
structure Package where
  request : EntryRef
  drive : DriveNo
  kind : RequestKind
  flags : ModeFlags
  firstTrack : Track
  firstBlock : Nat
  logical : Track
  physical : Option Track
  throughAlt : Bool
  nextBlock : Nat
  baseCount : Nat
  count : Nat
  transferred : Nat
  retryStep : Nat
  heldStep : Option (Nat × Nat)
  conditions : List Condition
  retries : Nat
  revsLost : Nat
  relocated : Nat
  relocTracks : List Track
  pacing : Nat
  verify : Bool
  visitTrack : Option Track
  visitResult : Option VisitResult
deriving DecidableEq, Repr

/-- The kinds of work of a work context (R102); a map write is one kind in each of its passes. -/
inductive WorkKind where
  | mapLoad | mapWrite | mapReadBack | sparingRead | sparingWrite | sparingVerify | sparingMark
deriving DecidableEq, Repr, Inhabited

/-- How a work context's work ended. -/
inductive WorkResult where
  | done | failed
deriving DecidableEq, Repr, Inhabited

/-- A work context (R102, R151). `left` is its current count; `result` stands from the end of its last block
until the Spare Map Unit takes the end of the work. -/
structure Work where
  kind : WorkKind
  track : Track
  nextBlock : Nat
  left : Nat
  step : Nat
  visitTrack : Option Track
  visitResult : Option VisitResult
  result : Option WorkResult
deriving DecidableEq, Repr

/-- The context in the Active Context: a copy of a request package with its source slot, or a copy of the drive's
work context, which has none (R99). Until the exchange-out, or the end of the work, the Context Store or the Spare Map
Unit keeps what it held at the exchange-in (R100, R105). -/
inductive Connected where
  | host (p : Package) (slot : Fin 9)
  | work (w : Work)
deriving DecidableEq, Repr

/-- Where a connected context stands in its exchange-in (R103). -/
inductive Phase where
  | granted | exchangeIn | ready
deriving DecidableEq, Repr, Inhabited

/-- Why a connected context is about to leave the path (6.4, R111). -/
inductive Leaving where
  | relocation | retryWait | pacingLoss | verifyPass | ended
deriving DecidableEq, Repr, Inhabited

/-- The Active Context (R99). Beside its items stand the model's own of the block in progress: marks since it
began, whether its identity check failed, and the identity field to be recorded with it; whether a retry wait
of a HOLD-PATH context is still to be counted (R108); why the context leaves; whether a reset abandoned it. -/
structure Active where
  conn : Connected
  drive : DriveNo
  diskLogical : Track
  diskPhysical : Option Track
  diskThroughAlt : Bool
  diskBlock : Nat
  diskLeft : Nat
  grantPeriod : Bool
  phase : Phase
  blockMarks : Option Nat
  fieldFailed : Bool
  rewrite : Option IdField
  retryDue : Bool
  leaving : Option Leaving
  abandoned : Bool
deriving DecidableEq, Repr

/-- The reconnect arbiter (R113). `freeAt` is the drive at whose next mark the data path becomes free after an
exchange-out or a completion (R105, R106). -/
structure Arbiter where
  holder : Option (Fin 9)
  pendingSet : Vector Bool 9
  lastGranted : Fin 9
  freeAt : Option DriveNo
deriving DecidableEq, Repr

/-! ## Data Path -/

/-- Fill state of a ring slot that is not EMPTY (R121). -/
inductive FillState where
  | filling | full | draining
deriving DecidableEq, Repr, Inhabited

/-- Check status of a block (R121). -/
inductive CheckStatus where
  | good | retriedGood | dataCheck | lost
deriving DecidableEq, Repr, Inhabited

/-- A taken slot of the Staging Ring with its tag (R121). -/
structure RingSlot where
  owner : EntryRef
  number : Nat
  track : Track
  block : Nat
  fill : FillState
  status : CheckStatus
  content : Option Content
deriving DecidableEq, Repr

/-- The disk side (R120). -/
inductive DiskSide where
  | active | waiting | halted
deriving DecidableEq, Repr, Inhabited

/-- The port side (R120). -/
inductive PortSide where
  | idle | carrying
deriving DecidableEq, Repr, Inhabited

/-- The Data Path (R120). `ring` lists the slots that are not EMPTY from head to tail, at most 24 (assumption
20); `portBlock` and `stopped` are request block numbers. `portMarks`, `finishedSinceLoss` and `sinceFinish`
are the model's own: marks since the port block began (R122), whether a block has finished since the last
pacing loss (R125), marks since a block of an image service context finished (R138). -/
structure DataPath where
  ring : List RingSlot
  disk : DiskSide
  port : PortSide
  portBlock : Option Nat
  pacing : Nat
  stopped : Option Nat
  step : Nat
  portMarks : Nat
  finishedSinceLoss : Bool
  sinceFinish : Nat
deriving DecidableEq, Repr

/-! ## Spare Map Unit -/

/-- The last check of a drive (R182). -/
structure LastCheck where
  conditions : List Condition
  track : Track
deriving DecidableEq, Repr

/-- A block named by physical track and block number, as the marks in doubt name it (R3). -/
structure BlockAt where
  track : Track
  block : Nat
deriving DecidableEq, Repr, Inhabited

/-- What the Spare Map Unit holds for each drive: Spare Table and retired set (R22), map write owed (R24),
unplaced recoveries (R32), marks in doubt (R3), original-unmarked (R169), last check (R182). -/
structure DriveMap where
  table : List SpareEntry
  retired : List Nat
  writeOwed : Bool
  unplaced : List Nat
  inDoubt : List BlockAt
  originalUnmarked : Option Nat
  lastCheck : Option LastCheck
deriving DecidableEq, Repr

/-- A map operation: a drive's map load or its map write (R29). -/
structure MapOp where
  drive : DriveNo
  load : Bool
deriving DecidableEq, Repr

/-- The map buffer (R29): owner, waiting operations in the order in which they asked, and its blocks. -/
structure MapBuffer where
  owner : Option MapOp
  waiting : List MapOp
  blocks : List Content
deriving DecidableEq, Repr

/-- Origin of a SPARE order (R159). -/
inductive Origin where
  | history | request | recovery
deriving DecidableEq, Repr, Inhabited

/-- Kind of an order, with what a SPARE order alone carries (R159). -/
inductive OrderKind where
  | spare (track : Nat) (origin : Origin)
  | mapWrite
deriving DecidableEq, Repr

/-- Step of an order (R159). -/
inductive OrderStep where
  | notStarted | s1 | s2 | s3 | s4 | s5 | s6 | s7 | running
deriving DecidableEq, Repr, Inhabited

/-- An order of the Sparing Queue (R159). `recorded` is the model's own: a map write of its S2 has succeeded
(R171). -/
structure Order where
  kind : OrderKind
  drive : DriveNo
  requester : Option EntryRef
  step : OrderStep
  newAlt : Option Nat
  oldAlt : Option Nat
  retryCount : Nat
  recorded : Bool
deriving DecidableEq, Repr

/-- The result a SPARE TRACK entry holds until it completes (R162). -/
structure SpareResult where
  ref : EntryRef
  outcome : Outcome
  conditions : List Condition
  transferred : Nat
  retries : Nat
  relocated : Nat
deriving DecidableEq, Repr

/-- An image tag (R164). -/
inductive ImageTag where
  | empty | read | unreadable
deriving DecidableEq, Repr, Inhabited

/-- Owner of the Image Area (R164): none, the SPARE order started on a drive, or the remaining image service
context. -/
inductive ImageOwner where
  | none
  | order (drive : DriveNo)
  | imageService
deriving DecidableEq, Repr

/-- The Image Area (R164): owner, the 24 tags, buffer slots 24–47, and the source track S3 read (R182). -/
structure ImageArea where
  owner : ImageOwner
  tags : Vector ImageTag 24
  slots : Vector Content 24
  source : Option Track
deriving DecidableEq, Repr

/-- Mark of an Error History Table entry (R154). -/
inductive HistoryMark where
  | none | candidate | recommended
deriving DecidableEq, Repr, Inhabited

/-- An Error History Table entry (R154). `raised` is the logical track of its raised order. -/
structure HistoryEntry where
  drive : DriveNo
  track : Track
  outcomes : List VisitResult
  mark : HistoryMark
  raised : Option Nat
  place : Option Nat
deriving DecidableEq, Repr

/-! ## What the unit sends out -/

/-- Commands on the drive bus (1.2). -/
inductive BusCommand where
  | seek (cyl : Nat)
  | headSelect (head : Nat)
  | offset (o : Offset)
  | recalibrate
deriving DecidableEq, Repr

/-- Results of an Answer (11.3); `sense` is followed by the sense record. -/
inductive AnswerResult where
  | accepted | granted | released | completed | sense
  | invalid | noDrive | portLimit | queueFull | duplicateTag | reservedElsewhere
  | notHolder | notPermitted | resetting
deriving DecidableEq, Repr, Inhabited

/-- The sense record (R183). -/
structure SenseRecord where
  state : DriveState
  mapState : MapState
  used : Nat
  retired : Nat
  free : Nat
  holder : Option Port
  cylinder : Nat
  lastCheck : Option LastCheck
  recommended : List Nat
  sparing : Option (Nat × OrderStep)
  originalUnmarked : Option Nat
deriving DecidableEq, Repr

/-- The messages of chapter 11. -/
inductive Message where
  | answer (kindCode : Nat) (tag : Nat) (result : AnswerResult)
  | senseAnswer (tag : Nat) (record : SenseRecord)
  | record (r : CompletionRecord)
  | attention (drives : Vector Bool 8)
  | nothingPending
deriving DecidableEq, Repr

/-- A Port Unit (R62). `reply` is the model's own item of the link exchange state EXCHANGE: the reply that the link is
carrying and has not given yet (R64, R65; assumption 19). -/
structure PortUnit where
  link : LinkState
  reply : Option Message
  waiting : Option Presented
  outstanding : Nat
  holdLine : Bool
  status : List CompletionRecord
  attention : Vector Bool 8
  statusPending : Bool
  linkClass : LinkClass
  maintenance : Bool
deriving DecidableEq, Repr

/-- What the unit sends out in one command: a drive bus command, a link message, a block presented to a host
with its request block number and check status (R124), a request for a write block (R127). -/
inductive Output where
  | bus (drive : DriveNo) (command : BusCommand)
  | message (port : Port) (m : Message)
  | blockToHost (port : Port) (number : Nat) (status : CheckStatus) (content : Option Content)
  | askBlock (port : Port) (number : Nat)
deriving DecidableEq, Repr

/-! ## Follow-ups -/

/-- What a change makes due at once, in the same step: a dispatch offer (R41), a look of the pass-through
completion rule (R79), an image service check (R136), the filling of a place freed in the Sparing Queue (R160),
a search for an order when the Image Area is freed (R164). -/
inductive Task where
  | offer (d : DriveNo)
  | passThrough (p : Port) (d : DriveNo)
  | imageCheck
  | freedPlace
  | imageFreed
deriving DecidableEq, Repr

/-! ## The whole unit -/

/-- A recorded block of the string, under its media address (Machine/Media.lean). -/
abbrev MediaCell := Nat × Recorded

/-- The state of the unit, of the media of its drives, and of the command queue. `followUps`, `out` and `freeIndex` are
the model's own (assumptions 16, 18 and 6). -/
structure State where
  pending : List Instr
  drives : Vector DriveRecord 8
  windows : Vector Arming 8
  ports : Vector PortUnit 4
  queue : List Entry
  stringReset : Option StringReset
  slots : Vector (Option Package) 9
  active : Option Active
  arbiter : Arbiter
  dataPath : DataPath
  works : Vector (Option Work) 8
  maps : Vector DriveMap 8
  mapBuffer : MapBuffer
  orders : List Order
  awaiting : List EntryRef
  results : List SpareResult
  image : ImageArea
  history : List HistoryEntry
  media : List MediaCell
  followUps : List Task
  out : List Output
  freeIndex : Nat
deriving DecidableEq, Repr

/-- Why a step can fault: never. The manual gives the unit no fault that stops it, and no meaning of the model raises
one. -/
inductive Fault where
deriving DecidableEq, Repr

/-- Why a command has no meaning. -/
inductive Refusal where
  /-- Raised by `exec` for a row that has no meaning yet; no row of this model is without one. Safe: nothing follows
  from it. -/
  | notModelled (mnemonic : String)
deriving DecidableEq, Repr

/-- A drive record after power-on reset, from its two straps (R5). -/
def DriveRecord.powerOn (installed autoSparing : Bool) : DriveRecord where
  installed := installed
  autoSparing := autoSparing
  state := .offline
  cylinder := 0
  head := 0
  angle := 0
  rotationKnown := false
  offset := .none
  holder := none
  mapState := .none
  dispatched := none
  target := none
  timer := .stopped
  recalCount := 0
  mismatch := none
  deferred := false
  orphaned := false
  boundaryMissed := false
  loadAwaits := .stopped

/-- A window arming after power-on reset (R56). -/
def Arming.powerOn : Arming := ⟨.disarmed, 0, 0, false⟩

/-- A Port Unit after power-on reset, from its two straps (R62). -/
def PortUnit.powerOn (linkClass : LinkClass) (maintenance : Bool) : PortUnit where
  link := .idle
  reply := none
  waiting := none
  outstanding := 0
  holdLine := false
  status := []
  attention := Vector.replicate 8 false
  statusPending := false
  linkClass := linkClass
  maintenance := maintenance

/-- The Data Path with no context connected (R120, R139). -/
def DataPath.empty : DataPath where
  ring := []
  disk := .halted
  port := .idle
  portBlock := none
  pacing := 0
  stopped := none
  step := 0
  portMarks := 0
  finishedSinceLoss := false
  sinceFinish := 0

/-- The arbiter after power-on reset (R113). -/
def Arbiter.powerOn : Arbiter := ⟨none, Vector.replicate 9 false, 8, none⟩

/-- The Spare Map Unit's items of a drive after power-on reset (R24, R3, R169, R182). -/
def DriveMap.powerOn : DriveMap := ⟨[], [], false, [], [], none, none⟩

/-- The Image Area after power-on reset (R164); its slots hold zero bytes (assumption 21). -/
def ImageArea.powerOn : ImageArea :=
  ⟨.none, Vector.replicate 24 .empty, Vector.replicate 24 (.bytes 0#4096), none⟩

/-- The drive record of position `d` after power-on reset with the given straps. -/
def strapsDrive (b : Straps) (d : DriveNo) : DriveRecord :=
  DriveRecord.powerOn b.installed[d] b.autoSparing[d]

/-- The Port Unit of index `i` after power-on reset with the given straps. -/
def strapsPort (b : Straps) (i : Fin 4) : PortUnit :=
  PortUnit.powerOn b.linkClass[i] b.maintenance[i]

/-- The unit after power-on reset with the given straps (R5, R62, R185); the media keep what is recorded. -/
def State.powerOn (straps : Straps) (media : List MediaCell) : State where
  pending := []
  drives := #v[strapsDrive straps 0, strapsDrive straps 1, strapsDrive straps 2, strapsDrive straps 3,
    strapsDrive straps 4, strapsDrive straps 5, strapsDrive straps 6, strapsDrive straps 7]
  windows := Vector.replicate 8 Arming.powerOn
  ports := #v[strapsPort straps 0, strapsPort straps 1, strapsPort straps 2, strapsPort straps 3]
  queue := []
  stringReset := none
  slots := Vector.replicate 9 none
  active := none
  arbiter := Arbiter.powerOn
  dataPath := DataPath.empty
  works := Vector.replicate 8 none
  maps := Vector.replicate 8 DriveMap.powerOn
  mapBuffer := ⟨none, [], []⟩
  orders := []
  awaiting := []
  results := []
  image := ImageArea.powerOn
  history := []
  media := media
  followUps := []
  out := []
  freeIndex := 0

/-- The straps of the reset state: every position installed, every permission given, every link of class 1
(DESIGN CHOICE, assumption 4). -/
def assumedStraps : Straps where
  installed := Vector.replicate 8 true
  autoSparing := Vector.replicate 8 true
  linkClass := Vector.replicate 4 .one
  maintenance := Vector.replicate 4 true

/-- The unit right after power-on reset, every drive's media as manufacture left them. -/
def State.reset : State := State.powerOn assumedStraps []

end Sys2Proof.Machine
end

