-- ==== Sys2Proof/Machine/Ops.lean ====
section
/-! DEFINITION. Access to the parts of the state, what the unit sends out, and the list of follow-ups that one
command sets off. -/

namespace Sys2Proof.Machine

/-- The place of a port in `State.ports`. -/
def portIndex : Port → Fin 4
  | .A => 0
  | .B => 1
  | .C => 2
  | .D => 3

/-- The four ports. -/
def allPorts : List Port := [.A, .B, .C, .D]

/-- The eight drive positions, ascending. -/
def allDrives : List DriveNo := [0, 1, 2, 3, 4, 5, 6, 7]

/-- The Context Store slot of a drive (R100), and its number as a requester (R113). -/
def driveSlot (d : DriveNo) : Fin 9 := ⟨d.val, by omega⟩

/-- The image service slot (R100). -/
def imageSlot : Fin 9 := 8

/-! ## Reading -/

/-- The record of drive `d` (R5). -/
def State.drive (s : State) (d : DriveNo) : DriveRecord := s.drives[d]

/-- The window arming of drive `d` (R56). -/
def State.window (s : State) (d : DriveNo) : Arming := s.windows[d]

/-- The Port Unit `p` (R62). -/
def State.port (s : State) (p : Port) : PortUnit := s.ports[portIndex p]

/-- Context Store slot `i` (R100). -/
def State.slot (s : State) (i : Fin 9) : Option Package := s.slots[i]

/-- The work context of drive `d` (R102). -/
def State.work (s : State) (d : DriveNo) : Option Work := s.works[d]

/-- The Spare Map Unit's items of drive `d` (R24). -/
def State.map (s : State) (d : DriveNo) : DriveMap := s.maps[d]

/-! ## Writing -/

/-- `s` with the record of drive `d` changed by `f`. -/
def State.onDrive (s : State) (d : DriveNo) (f : DriveRecord → DriveRecord) : State :=
  { s with drives := s.drives.set d (f s.drives[d]) }

/-- `s` with the window arming of drive `d` changed by `f`. -/
def State.onWindow (s : State) (d : DriveNo) (f : Arming → Arming) : State :=
  { s with windows := s.windows.set d (f s.windows[d]) }

/-- `s` with the Port Unit `p` changed by `f`. -/
def State.onPort (s : State) (p : Port) (f : PortUnit → PortUnit) : State :=
  { s with ports := s.ports.set (portIndex p) (f s.ports[portIndex p]) }

/-- `s` with Context Store slot `i` holding `x`. -/
def State.setSlot (s : State) (i : Fin 9) (x : Option Package) : State :=
  { s with slots := s.slots.set i x }

/-- `s` with `w` as the work context of drive `d`. -/
def State.setWork (s : State) (d : DriveNo) (w : Option Work) : State :=
  { s with works := s.works.set d w }

/-- `s` with the Spare Map Unit's items of drive `d` changed by `f`. -/
def State.onMap (s : State) (d : DriveNo) (f : DriveMap → DriveMap) : State :=
  { s with maps := s.maps.set d (f s.maps[d]) }

/-- `s` with the Active Context changed by `f`, if one is connected. -/
def State.onActive (s : State) (f : Active → Active) : State :=
  { s with active := s.active.map f }

/-- `s` with the Data Path changed by `f`. -/
def State.onDataPath (s : State) (f : DataPath → DataPath) : State :=
  { s with dataPath := f s.dataPath }

/-- `f` applied to a connected host context's package. -/
def Connected.mapPackage (f : Package → Package) : Connected → Connected
  | .host p i => .host (f p) i
  | .work w => .work w

/-- `f` applied to a connected work context. -/
def Connected.mapWork (f : Work → Work) : Connected → Connected
  | .host p i => .host p i
  | .work w => .work (f w)

/-- `s` with the connected host context's package changed by `f`. -/
def State.onPackage (s : State) (f : Package → Package) : State :=
  s.onActive fun a => { a with conn := a.conn.mapPackage f }

/-- `s` with the connected work context changed by `f`. -/
def State.onWork (s : State) (f : Work → Work) : State :=
  s.onActive fun a => { a with conn := a.conn.mapWork f }

/-- `s` with requester `i` in the arbiter's pending set, or out of it (R114). -/
def State.setPending (s : State) (i : Fin 9) (b : Bool) : State :=
  { s with arbiter := { s.arbiter with pendingSet := s.arbiter.pendingSet.set i b } }

/-- `s` with one more item sent out. -/
def State.emit (s : State) (o : Output) : State := { s with out := s.out ++ [o] }

/-- `s` with exactly the given items sent out. -/
def State.sending (s : State) (l : List Output) : State := { s with out := l }

/-- A sum that stays at 255 (R101). -/
def saturate (n : Nat) : Nat := min n 255

/-! ## Follow-ups -/

/-- A step in the making: the state reached so far and what is due, in the order in which it is taken. -/
structure Turn where
  st : State
  todo : List Task
deriving DecidableEq, Repr

/-- The turn with its state changed by `f`. -/
def Turn.upd (t : Turn) (f : State → State) : Turn := { t with st := f t.st }

/-- The order in which follow-ups of different kinds are taken (DESIGN CHOICE, assumption 24): freed places of the Sparing
Queue, then the search at a freed Image Area, the pass-through looks, the dispatch offers, the image service checks. -/
def Task.rank : Task → Nat
  | .freedPlace => 0
  | .imageFreed => 1
  | .passThrough _ _ => 2
  | .offer _ => 3
  | .imageCheck => 4

/-- `x` in its place among the follow-ups that are due: behind those of its own kind and of the kinds taken before it. -/
def insertTask (x : Task) : List Task → List Task
  | [] => [x]
  | y :: l => if Task.rank x < Task.rank y then x :: y :: l else y :: insertTask x l

/-- The turn with `x` due. -/
def Turn.push (t : Turn) (x : Task) : Turn := { t with todo := insertTask x t.todo }

/-- `f` for each element of a list in order. -/
def Turn.each {α : Type} (t : Turn) (l : List α) (f : α → Turn → Turn) : Turn :=
  l.foldl (fun t x => f x t) t

/-- `f` when `b`. -/
def Turn.whenDo (t : Turn) (b : Bool) (f : Turn → Turn) : Turn := if b then f t else t

/-! ## Drive bus commands (R4) -/

/-- HEAD SELECT: sent, and recorded in the drive record (R4). -/
def State.headSelect (s : State) (d : DriveNo) (h : Nat) : State :=
  (s.emit (.bus d (.headSelect h))).onDrive d fun r => { r with head := h }

/-- OFFSET: sent, and recorded in the drive record (R4). -/
def State.sendOffset (s : State) (d : DriveNo) (o : Offset) : State :=
  (s.emit (.bus d (.offset o))).onDrive d fun r => { r with offset := o }

/-- OFFSET, when it changes the drive's offset (R148, R149). -/
def State.offset (s : State) (d : DriveNo) (o : Offset) : State :=
  if (s.drive d).offset = o then s else s.sendOffset d o

/-- SEEK: absolute, returns the offset to NONE, sets the positioning target and the 120 ms limit (R4, R8). -/
def State.seek (s : State) (d : DriveNo) (cyl : Nat) : State :=
  (s.emit (.bus d (.seek cyl))).onDrive d fun r =>
    { r with offset := .none, target := some cyl, timer := .ms120 }

/-- RECALIBRATE: returns the offset to NONE, target 0, 500 ms limit (R4, R11). -/
def State.recalibrate (s : State) (d : DriveNo) : State :=
  (s.emit (.bus d .recalibrate)).onDrive d fun r =>
    { r with offset := .none, target := some 0, timer := .ms500 }

/-- The kind of limit of the drive's positioning command that is not yet answered: that of the running timer, or, in a
map load whose timer a string reset has stopped, that of the command it awaits (R19, assumption 13). -/
def DriveRecord.unanswered (r : DriveRecord) : SeekTimer :=
  if r.timer = .stopped && r.state = .loadingMap then r.loadAwaits else r.timer

/-- The cylinder at which a map load's command of this kind of limit ends (R6, R12). -/
def loadTarget : SeekTimer → Option Nat
  | .stopped => none
  | .ms120 => some 655
  | .ms500 => some 0

/-- The command that a map load still awaits after a string reset stands as its positioning command again, as its answer
or a Position Fault comes (R19, assumption 13). Nothing changes for any other drive. -/
def State.recallLoad (s : State) (d : DriveNo) : State :=
  if (s.drive d).unanswered = (s.drive d).timer then s
  else s.onDrive d fun r =>
    { r with timer := r.loadAwaits, target := loadTarget r.loadAwaits, loadAwaits := .stopped }

/-! ## Lines and sets of a Port Unit -/

/-- No drive is in the set. -/
def noDrives : Vector Bool 8 := Vector.replicate 8 false

/-- Status Pending follows the Status Queue and the Attention Set (R67). -/
def PortUnit.refreshPending (u : PortUnit) : PortUnit :=
  { u with statusPending := !u.status.isEmpty || decide (u.attention ≠ noDrives) }

/-- Adds a drive to every port's Attention Set (R181). -/
def State.addAttention (s : State) (d : DriveNo) : State :=
  allPorts.foldl (fun s p =>
    s.onPort p fun u => PortUnit.refreshPending { u with attention := u.attention.set d true }) s

/-- The set of every installed drive (R84, R181). -/
def State.installedSet (s : State) : Vector Bool 8 :=
  #v[(s.drive 0).installed, (s.drive 1).installed, (s.drive 2).installed, (s.drive 3).installed,
     (s.drive 4).installed, (s.drive 5).installed, (s.drive 6).installed, (s.drive 7).installed]

/-- Appends a completion record to a port's Status Queue (R176, R180). -/
def State.appendRecord (s : State) (p : Port) (r : CompletionRecord) : State :=
  s.onPort p fun u => PortUnit.refreshPending { u with status := u.status ++ [r] }

/-- Ends the port's data connection, if its link carries one (R66). -/
def State.endConnection (s : State) (p : Port) : State :=
  if (s.port p).link = .data then s.onPort p fun u => { u with link := .idle } else s

/-! ## Names of conditions -/

/-- The bit of a condition name (11.4). -/
def Condition.bit : Condition → Nat
  | .dataCheck => 0
  | .idMismatch => 1
  | .range => 2
  | .lostBlock => 3
  | .recovered => 4
  | .alternateUsed => 5
  | .linkMismatch => 6
  | .positionFault => 7
  | .writeFault => 8
  | .linkTimeout => 9
  | .verifyFailed => 10
  | .alternatesExhausted => 11
  | .sparingUnavailable => 12
  | .driveLost => 13

/-- Adds a name to a condition set, which lists each name once in the order of the bits. -/
def addCondition (c : Condition) : List Condition → List Condition
  | [] => [c]
  | x :: l =>
    if c = x then x :: l
    else if c.bit < x.bit then c :: x :: l
    else x :: addCondition c l

/-! ## The Request Queue -/

/-- The reference by which other items name the entry (R78). -/
def Entry.ref (e : Entry) : EntryRef := ⟨e.port, e.request.tag⟩

/-- The entry a reference names. -/
def State.entry (s : State) (r : EntryRef) : Option Entry := s.queue.find? fun e => e.ref = r

/-- The oldest entry of port `p` for drive `d`, in any state (R45, R79). -/
def State.oldest (s : State) (p : Port) (d : DriveNo) : Option Entry :=
  s.queue.find? fun e => e.port = p && e.request.drive = d

/-- Port `p` has a request in flight on drive `d` (R79). -/
def State.inFlight (s : State) (p : Port) (d : DriveNo) : Bool :=
  s.queue.any fun e => e.port = p && e.request.drive = d && e.status = .dispatched

/-- Changes the entries named by `r`. -/
def State.onEntry (s : State) (r : EntryRef) (f : Entry → Entry) : State :=
  { s with queue := s.queue.map fun e => if e.ref = r then f e else e }

/-- Removes the entry named by `r`; the others keep their order (R78). -/
def State.removeEntry (s : State) (r : EntryRef) : State :=
  { s with queue := s.queue.filter fun e => e.ref ≠ r }

/-- A string reset is in progress (R81). -/
def State.resetting (s : State) : Bool := s.stringReset.isSome

end Sys2Proof.Machine
end

