-- ==== Sys2Proof/Machine/Geometry.lean ====
section
/-! DEFINITION. Tracks, alternates and leads, and the access estimate (chapters 1 to 3). -/

namespace Sys2Proof.Machine

/-- The logical track number: cylinder × 12 + head (00 Conventions). -/
def trackNumber (t : Track) : Nat := t.cyl * 12 + t.head

/-- The track of a logical track number. -/
def trackOfNumber (n : Nat) : Track := ⟨n / 12, n % 12⟩

/-- The map track, 655/0 (1.1). -/
def mapTrack : Track := ⟨655, 0⟩

/-- The physical track an alternate index names (R21). -/
def alternateTrack (a : Nat) : Track := ⟨640 + a / 12, a % 12⟩

/-- The alternate index of a physical track on cylinders 640–654 (R21). -/
def alternateIndex (t : Track) : Option Nat :=
  if 640 ≤ t.cyl ∧ t.cyl ≤ 654 ∧ t.head < 12 then some ((t.cyl - 640) * 12 + t.head) else none

/-- The block time k of a link class (R48). -/
def blockTime : LinkClass → Nat
  | .one => 2
  | .two => 3
  | .three => 4
  | .four => 6

/-- The lead of a host request's work (R48): 2 + k while a WRITE BLOCKS context writes, otherwise 2. -/
def hostLead (kind : RequestKind) (verify : Bool) (c : LinkClass) : Nat :=
  if kind = .writeBlocks && !verify then 2 + blockTime c else 2

/-- The lead of a map load, a map write and each sparing step (R48). -/
def workLead : Nat := 2

/-- The window sector of a block with a lead: (4n − L) mod 96 (R50, R57). -/
def windowSector (block lead : Nat) : Nat := (4 * block + 96 - lead) % 96

/-- The seek estimate of a distance (R49). -/
def seekEstimate (d : Nat) : Nat :=
  if d = 0 then 0 else if d ≤ 31 then 40 + 2 * d else 94 + d / 3

/-- The distance between two cylinders (R49). -/
def distance (a b : Nat) : Nat := if a ≤ b then b - a else a - b

/-- The rotational wait: (4b − L − p − S) mod 96 (R50). -/
def rotationalWait (block lead p seek : Nat) : Nat :=
  (((4 * block : Int) - lead - p - seek) % 96).toNat

/-- The access estimate: A = S + W (R51). -/
def accessEstimate (target arm p block lead : Nat) : Nat :=
  let seek := seekEstimate (distance target arm)
  seek + rotationalWait block lead p seek

/-- The offset at which a step of the retry ladder takes its block (R147). -/
def stepOffset (step : Nat) : Offset :=
  match step with
  | 4 => .plus
  | 5 => .minus
  | 6 => .plus
  | 7 => .minus
  | _ => .none

/-- The last step of a host request's ladder (R147). -/
def lastStep (f : ModeFlags) : Nat := if f.noRetry then 0 else if f.noOffset then 3 else 7

/-- The addressing of READ BLOCKS or WRITE BLOCKS is out of range (R71). -/
def transferOutOfRange (m : DriveRequest) : Bool :=
  decide (640 ≤ m.cyl) || decide (12 ≤ m.head) || decide (24 ≤ m.firstBlock) || decide (m.count = 0) ||
    decide (97 ≤ m.count) || decide (288 < m.head * 24 + m.firstBlock + m.count)

/-- The addressing of a drive request is out of range (R71). -/
def outOfRange (kind : RequestKind) (m : DriveRequest) : Bool :=
  match kind with
  | .spareTrack => decide (640 ≤ m.cyl) || decide (12 ≤ m.head)
  | _ => transferOutOfRange m

/-- The first logical track of a request. -/
def firstTrack (m : DriveRequest) : Track := ⟨m.cyl, m.head⟩

/-- The logical tracks a READ BLOCKS or WRITE BLOCKS request touches; SPARE TRACK touches none (R27, R161). -/
def touchedTracks (kind : RequestKind) (m : DriveRequest) : List Track :=
  match kind with
  | .spareTrack => []
  | _ =>
    (List.range ((m.firstBlock + m.count + 23) / 24)).map fun i => ⟨m.cyl, m.head + i⟩

end Sys2Proof.Machine
end

