-- ==== Sys2Proof/Machine/SpareMap.lean ====
section
/-! DEFINITION. Spare Tables, retired sets, translation and held tracks (chapter 2). -/

namespace Sys2Proof.Machine

/-! ## The Spare Table (R22, R23) -/

/-- The entry for a logical track number. -/
def tableEntry (table : List SpareEntry) (n : Nat) : Option SpareEntry := table.find? fun e => e.track = n

/-- Adds an entry in its place in ascending order of logical track (R22). -/
def tableInsert (e : SpareEntry) : List SpareEntry → List SpareEntry
  | [] => [e]
  | x :: l => if e.track < x.track then e :: x :: l else x :: tableInsert e l

/-- Alters the entry for a logical track in place (R22). -/
def tableAlter (table : List SpareEntry) (n : Nat) (f : SpareEntry → SpareEntry) : List SpareEntry :=
  table.map fun e => if e.track = n then f e else e

/-- Takes the entry for a logical track out of the table. -/
def tableRemove (table : List SpareEntry) (n : Nat) : List SpareEntry := table.filter fun e => e.track ≠ n

/-- An entry names the index as its alternate or as its former alternate (R23). -/
def entryNames (e : SpareEntry) (a : Nat) : Bool := e.alternate = a || e.former = some a

/-- Some entry of the table names the index. -/
def tableNames (table : List SpareEntry) (a : Nat) : Bool := table.any fun e => entryNames e a

/-- The index is free (R23). -/
def DriveMap.isFree (m : DriveMap) (a : Nat) : Bool := !tableNames m.table a && !m.retired.contains a

/-- The lowest free alternate index, if any (R23). -/
def DriveMap.lowestFree (m : DriveMap) : Option Nat := (List.range 180).find? fun a => m.isFree a

/-- The number of distinct indexes named by entries (R23). -/
def namedCount (table : List SpareEntry) : Nat := ((List.range 180).filter fun a => tableNames table a).length

/-- The free alternates count of the sense record (R23). -/
def DriveMap.freeCount (m : DriveMap) : Nat := 180 - namedCount m.table - m.retired.length

/-- Adds an index to the retired set, without duplicates (R22). -/
def DriveMap.retire (m : DriveMap) (a : Nat) : DriveMap :=
  if m.retired.contains a then m else { m with retired := m.retired ++ [a] }

/-- The entry restored (R171): back to its former alternate, or taken out. -/
def DriveMap.restore (m : DriveMap) (n : Nat) : DriveMap :=
  match tableEntry m.table n with
  | some e =>
    if e.state = .copying then
      match e.former with
      | some a =>
        { m with table := tableAlter m.table n fun e => { e with alternate := a, state := .committed, former := none } }
      | none => { m with table := tableRemove m.table n }
    else m
  | none => m

/-- The write-ahead of S2 (R166) for logical track `n` with the order's new alternate. -/
def DriveMap.writeAhead (m : DriveMap) (n newAlt : Nat) : DriveMap :=
  match tableEntry m.table n with
  | none => { m with table := tableInsert ⟨n, newAlt, .copying, none⟩ m.table }
  | some e =>
    match e.state with
    | .committed =>
      { m with table := tableAlter m.table n fun e =>
          { e with alternate := newAlt, state := .copying, former := some e.alternate } }
    | .copying => { m with table := tableAlter m.table n fun e => { e with alternate := newAlt } }

/-- The commit at entry to S6 (R170): COMMITTED with the new alternate, the old alternate retired. -/
def DriveMap.commit (m : DriveMap) (n newAlt : Nat) (oldAlt : Option Nat) : DriveMap :=
  let m := { m with table := tableAlter m.table n fun e =>
    { e with alternate := newAlt, state := .committed, former := none } }
  match oldAlt with
  | some a => m.retire a
  | none => m

/-! ## Validity of a map record (R30) -/

/-- Strictly ascending logical tracks. -/
def ascending : List SpareEntry → Bool
  | [] => true
  | [_] => true
  | a :: b :: l => decide (a.track < b.track) && ascending (b :: l)

/-- All indexes the entries name, alternates and former alternates. -/
def namedIndexes (l : List SpareEntry) : List Nat :=
  l.flatMap fun e => e.alternate :: (match e.former with | some a => [a] | none => [])

/-- No element occurs twice. -/
def noDuplicates : List Nat → Bool
  | [] => true
  | a :: l => !l.contains a && noDuplicates l

/-- The record is valid (R30). -/
def recordValid (r : MapRecord) : Bool :=
  r.checkAgrees &&
  (decide (r.entryCount ≤ 180) && decide (r.entries.length = r.entryCount)) &&
  (r.entries.all (fun e => decide (e.track ≤ 7679)) && ascending r.entries) &&
  ((namedIndexes r.entries).all (fun a => decide (a ≤ 179)) && noDuplicates (namedIndexes r.entries)) &&
  r.entries.all (fun e => e.state = .copying || e.former.isNone) &&
  (r.retired.all (fun a => decide (a ≤ 179)) && noDuplicates r.retired &&
    r.retired.all (fun a => !tableNames r.entries a))

/-- The record built from a drive's table as it stands (R34). -/
def DriveMap.toRecord (m : DriveMap) : MapRecord := ⟨m.table.length, m.table, m.retired, true⟩

/-- The record that the four blocks of the map buffer read as. Four parts of one record in their order are that record;
plain bytes read as a free record. Parts of different records, left by a write that failed part way, make a record whose
check does not agree (R35 Note), and so do parts out of their order and parts among plain bytes, for which R30 gives no
layout to read them by (DESIGN CHOICE, assumption 9). -/
def recordOfBlocks (l : List Content) : MapRecord :=
  match l with
  | [.mapPart r 0, .mapPart r1 1, .mapPart r2 2, .mapPart r3 3] =>
    if r = r1 ∧ r = r2 ∧ r = r3 then r else ⟨0, [], [], false⟩
  | l =>
    if l.all (fun c => match c with | .bytes _ => true | .mapPart _ _ => false) then Config.foreignMap l
    else ⟨0, [], [], false⟩

/-! ## Orders of a drive, as translation sees them -/

/-- The order's step is one of S1 to S7. -/
def OrderStep.inSteps : OrderStep → Bool
  | .notStarted => false
  | .running => false
  | .s1 => true
  | .s2 => true
  | .s3 => true
  | .s4 => true
  | .s5 => true
  | .s6 => true
  | .s7 => true

/-- The order has started (R159). -/
def Order.started (o : Order) : Bool := o.step ≠ .notStarted

/-- The order is a SPARE order for logical track `n` of drive `d`. -/
def Order.isFor (o : Order) (d : DriveNo) (n : Nat) : Bool :=
  o.drive = d && (match o.kind with | .spare m _ => m = n | .mapWrite => false)

/-- The Sparing Queue's SPARE order for a drive and track (R159: at most one). -/
def State.spareOrder (s : State) (d : DriveNo) (n : Nat) : Option Order := s.orders.find? fun o => o.isFor d n

/-- The started order of a drive (R159: at most one). -/
def State.startedOrder (s : State) (d : DriveNo) : Option Order :=
  s.orders.find? fun o => o.drive = d && o.started

/-! ## Translation (R25, R28) -/

/-- The result of a translation (R25). -/
inductive Translation where
  | direct (t : Track)
  | alternate (t : Track)
  | held
deriving DecidableEq, Repr

/-- Translates a logical track of a drive (R25). -/
def State.translate (s : State) (d : DriveNo) (t : Track) : Translation :=
  match tableEntry (s.map d).table (trackNumber t) with
  | some e =>
    match e.state with
    | .committed => .alternate (alternateTrack e.alternate)
    | .copying => .held
  | none =>
    if s.orders.any (fun o => o.isFor d (trackNumber t) && o.step.inSteps) then .held else .direct t

/-- The physical track of a translation, with whether it is an alternate. A dispatched request's track is never
held (R26); a held track would count as its own (assumption 15). -/
def Translation.target (t : Track) : Translation → Track × Bool
  | .direct p => (p, false)
  | .alternate p => (p, true)
  | .held => (t, false)

/-- The logical owner of a physical track (R28, R155), as a logical track number. -/
def State.owner (s : State) (d : DriveNo) (t : Track) : Option Nat :=
  if t.cyl < 640 then some (trackNumber t)
  else
    match alternateIndex t with
    | none => none
    | some a => ((s.map d).table.find? fun e => e.alternate = a).map SpareEntry.track

/-- A logical track is held for the Request Queue (R27, R165): the table holds a COPYING entry for it, or a SPARE
order for it is in steps S1 to S7. -/
def State.trackHeld (s : State) (d : DriveNo) (n : Nat) : Bool :=
  ((s.map d).table.any fun e => e.track = n && e.state = .copying) ||
    s.orders.any fun o => o.isFor d n && o.step.inSteps

/-- A track of the entry's request is held (R27). -/
def State.touchesHeld (s : State) (e : Entry) : Bool :=
  (touchedTracks e.kind e.request).any fun t => s.trackHeld e.request.drive (trackNumber t)

/-- The QUEUED entries of drive `d` that touch a held track become HELD (R27, R32, R165). -/
def State.holdTouching (s : State) (d : DriveNo) : State :=
  { s with queue := s.queue.map fun e =>
      if e.request.drive = d && e.status = .queued && e.mark.isNone && s.touchesHeld e
      then { e with status := .held } else e }

/-- Some HELD entry of drive `d` no longer touches a held track. -/
def State.someReleasable (s : State) (d : DriveNo) : Bool :=
  s.queue.any fun e => e.request.drive = d && e.status = .held && !s.touchesHeld e

/-- The HELD entries of drive `d` that touch no held track any more return to QUEUED (R27), which makes a
dispatch offer (R41). -/
def releaseHeld (d : DriveNo) (t : Turn) : Turn :=
  let s := t.st
  if s.someReleasable d then
    (t.upd fun s => { s with queue := s.queue.map fun e =>
      if e.request.drive = d && e.status = .held && !s.touchesHeld e
      then { e with status := .queued } else e }).push (.offer d)
  else t

end Sys2Proof.Machine
end

