-- ==== Sys2Proof/Machine/Orders.lean ====
section
/-! DEFINITION. The Sparing Queue: placing orders, making room, orders that leave, freed places, results of SPARE
TRACK entries (9.2, R36), and the marks of the Error History Table that follow an order's fate (R158). -/

namespace Sys2Proof.Machine

/-- An order that has not started. -/
def newOrder (kind : OrderKind) (d : DriveNo) (requester : Option EntryRef) : Order :=
  ⟨kind, d, requester, .notStarted, none, none, 0, false⟩

/-- The two name the same order of the queue (R159): the SPARE order of a drive and track, or the MAP-WRITE order of
a drive that has, or has not, started. -/
def sameOrder (a b : Order) : Bool :=
  a.drive = b.drive &&
    match a.kind, b.kind with
    | .spare n _, .spare m _ => n = m
    | .mapWrite, .mapWrite => a.started == b.started
    | .spare _ _, .mapWrite => false
    | .mapWrite, .spare _ _ => false

/-- The order with its origin. -/
def Order.origin (o : Order) : Option Origin :=
  match o.kind with
  | .spare _ g => some g
  | .mapWrite => none

/-- The logical track number of a SPARE order. -/
def Order.track (o : Order) : Option Nat :=
  match o.kind with
  | .spare n _ => some n
  | .mapWrite => none

/-- Changes the orders that are the same order as `o`. -/
def State.onOrder (s : State) (o : Order) (f : Order → Order) : State :=
  { s with orders := s.orders.map fun x => if sameOrder x o then f x else x }

/-- Changes the started order of a drive. -/
def State.onStarted (s : State) (d : DriveNo) (f : Order → Order) : State :=
  { s with orders := s.orders.map fun x => if x.drive = d && x.started then f x else x }

/-! ## Marks that follow an order (R154, R158) -/

/-- The mark place after every other (R154). -/
def nextPlace (h : List HistoryEntry) : Nat :=
  h.foldl (fun n e => match e.place with | some p => max n (p + 1) | none => n) 0

/-- The entry becomes RECOMMENDED with the given place (R154, R158). -/
def HistoryEntry.recommend (e : HistoryEntry) (place : Nat) : HistoryEntry :=
  { e with mark := .recommended, raised := none, place := some place }

/-- RECOMMENDED marks, with places after every other, for the entries that satisfy `p`, from place `n` on. R154, R158 and
R184 give entries that become RECOMMENDED together no order among themselves: the more recently touched entry takes the
earlier place (DESIGN CHOICE, assumption 35). -/
def recommendWhere (p : HistoryEntry → Bool) : Nat → List HistoryEntry → List HistoryEntry
  | _, [] => []
  | n, e :: l => if p e then e.recommend n :: recommendWhere p (n + 1) l else e :: recommendWhere p n l

/-- An order for drive `d` and track `n` has left without committing: its entries become RECOMMENDED (R158). -/
def State.unraise (s : State) (d : DriveNo) (n : Nat) : State :=
  { s with history := recommendWhere (fun e => e.drive = d && e.raised = some n) (nextPlace s.history) s.history }

/-- The order committed the move of physical track `replaced`: the entries of that track go, other entries it had
raised become RECOMMENDED (R158). -/
def State.committedMarks (s : State) (d : DriveNo) (n : Nat) (replaced : Track) : State :=
  let s := { s with history := s.history.filter fun e => !(e.drive = d && e.track = replaced) }
  s.unraise d n

/-! ## Placing and leaving (R159, R160) -/

/-- An order joins at the tail (R159) and its drive is offered (R160). An offer that falls due before its drive is in
IDLE is looked at when the rest of the step is done, and makes none unless the drive has entered IDLE by then (R41). -/
def placeTail (o : Order) (t : Turn) : Turn :=
  (t.upd fun s => { s with orders := s.orders ++ [o] }).push (.offer o.drive)

/-- An order joins `k` places behind the head (R32) and its drive is offered (R160). -/
def placeNearHead (k : Nat) (o : Order) (t : Turn) : Turn :=
  (t.upd fun s => { s with orders := s.orders.take k ++ o :: s.orders.drop k }).push (.offer o.drive)

/-- The order may be removed to make room (R160). -/
def Order.removable (o : Order) : Bool :=
  o.origin = some .history && !o.started && o.requester.isNone

/-- The newest order that may be removed to make room (R160). -/
def State.roomOrder (s : State) : Option Order := s.orders.reverse.find? Order.removable

/-- Makes room for one order (R160): none when the queue is full and no order may be removed. The place is not
filled under R36; the removed order's entry becomes RECOMMENDED (R158). -/
def makeRoom (t : Turn) : Option Turn :=
  if t.st.orders.length < 8 then some t
  else
    match t.st.roomOrder with
    | none => none
    | some o => some (t.upd fun s =>
        let s := { s with orders := (s.orders.reverse.eraseP Order.removable).reverse }
        match o.track with
        | some n => s.unraise o.drive n
        | none => s)

/-- An order leaves the queue (R159): its requesting entry loses its reference, and the freed place is to be filled
(R160) before any other follow-up (`Task.rank`). What becomes of its history entries is the caller's (R158). -/
def orderLeaves (o : Order) (t : Turn) : Turn :=
  let t := t.upd fun s => { s with orders := s.orders.filter fun x => !sameOrder x o }
  let t := match o.requester with
    | some r => t.upd fun s => s.onEntry r fun e => { e with orderTrack := none }
    | none => t
  t.push .freedPlace

/-- An order is removed without running (R158, R160). -/
def orderRemoved (o : Order) (t : Turn) : Turn :=
  let t := match o.track with
    | some n => t.upd fun s => s.unraise o.drive n
    | none => t
  orderLeaves o t

/-! ## Results of SPARE TRACK entries (R162) -/

/-- The entry holds a result. -/
def State.hasResult (s : State) (r : EntryRef) : Bool := s.results.any fun x => x.ref = r

/-- Gives an entry of drive `d` its result (R162); none is given while a string reset is in progress (R175). -/
def giveResult (d : DriveNo) (x : SpareResult) (t : Turn) : Turn :=
  if t.st.resetting then t
  else (t.upd fun s => { s with results := s.results ++ [x] }).push (.passThrough x.ref.port d)

/-- The result of a failed order, or of an entry whose order could not be placed (R162). -/
def failedResult (r : EntryRef) (c : Condition) (retries : Nat) : SpareResult := ⟨r, .check, [c], 0, retries, 0⟩

/-! ## MAP-WRITE and RECOVERY orders (R32, R36) -/

/-- A MAP-WRITE order for the drive is queued and has not started (R36). R36 says so for an adoption; that an order which
has started, and may still wait for the map buffer, is not counted as a freed place is filled either is DESIGN CHOICE
(assumption 38). -/
def State.mapWriteQueued (s : State) (d : DriveNo) : Bool :=
  s.orders.any fun o => o.drive = d && o.kind = .mapWrite && !o.started

/-- Places a MAP-WRITE order for the drive, or sets its map write owed (R36). -/
def placeMapWrite (d : DriveNo) (t : Turn) : Turn :=
  if t.st.mapWriteQueued d then t
  else if t.st.orders.length < 8 then placeTail (newOrder .mapWrite d none) t
  else t.upd fun s => s.onMap d fun m => { m with writeOwed := true }

/-- Places a RECOVERY order for the drive and track `k` places behind the head (R32). An order already queued for
them is moved there and becomes a RECOVERY order, keeping its requesting entry. None when there is no room. -/
def placeRecovery (k : Nat) (d : DriveNo) (n : Nat) (requester : Option EntryRef) (t : Turn) : Option Turn :=
  match t.st.spareOrder d n with
  | some o =>
    let moved := { o with kind := .spare n .recovery }
    let rest := t.st.orders.filter fun x => !sameOrder x o
    some ((t.upd fun s => { s with orders := rest.take k ++ moved :: rest.drop k }).push (.offer d))
  | none => (makeRoom t).map (placeNearHead k (newOrder (.spare n .recovery) d requester))

/-- The track is no longer an unplaced recovery. -/
def State.notePlaced (s : State) (d : DriveNo) (n : Nat) : State :=
  s.onMap d fun m => { m with unplaced := m.unplaced.filter fun x => x ≠ n }

/-- The lowest number of a list. -/
def lowest : List Nat → Option Nat
  | [] => none
  | a :: l => match lowest l with
    | none => some a
    | some b => some (min a b)

/-- The place one order has freed is filled (R36): by the unplaced recovery of the lowest-numbered drive that has
one, or by the MAP-WRITE order of the lowest-numbered drive that is owed one. No order is removed for it (R160). -/
def fillPlace (t : Turn) : Turn :=
  if 8 ≤ t.st.orders.length then t
  else match allDrives.find? fun d => !(t.st.map d).unplaced.isEmpty with
  | some d =>
    match lowest (t.st.map d).unplaced with
    | some n =>
      match placeRecovery 0 d n none t with
      | some t => t.upd fun s => s.notePlaced d n
      | none => t
    | none => t
  | none =>
    match allDrives.find? fun d =>
      (t.st.drive d).mapState = .loaded && (t.st.map d).writeOwed && !t.st.mapWriteQueued d with
    | some d => placeTail (newOrder .mapWrite d none) t
    | none => t

/-! ## Orders of SPARE TRACK requests (R161) -/

/-- Records an order as the entry's sparing order reference. -/
def State.referTo (s : State) (r : EntryRef) (n : Nat) : State :=
  s.onEntry r fun e => { e with orderTrack := some n }

/-- Places the order of SPARE TRACK entry `r` for track `n` of drive `d`, by the first case of R161 that applies. The
second part tells that the placement found no room. -/
def placeSpareTrack (r : EntryRef) (d : DriveNo) (n : Nat) (t : Turn) : Turn × Bool :=
  if (t.st.drive d).mapState = .degraded then (giveResult d (failedResult r .sparingUnavailable 0) t, false)
  else if (t.st.map d).unplaced.contains n then
    match placeRecovery 0 d n (some r) t with
    | some t => (t.upd fun s => (s.notePlaced d n).referTo r n, false)
    | none => (giveResult d (failedResult r .sparingUnavailable 0) t, true)
  else
    match t.st.spareOrder d n with
    | some o =>
      if o.requester.isNone then
        (t.upd fun s => (s.onOrder o fun o => { o with requester := some r }).referTo r n, false)
      else
        (t.upd fun s => if s.awaiting.contains r then s else { s with awaiting := s.awaiting ++ [r] }, false)
    | none =>
      match makeRoom t with
      | some t => (placeTail (newOrder (.spare n .request) d (some r)) (t.upd fun s => s.referTo r n), false)
      | none => (giveResult d (failedResult r .sparingUnavailable 0) t, true)

/-- The entry still waits on an order that has a requesting entry (R161, case 4). -/
def State.stillAwaiting (s : State) (r : EntryRef) : Bool :=
  match s.entry r with
  | some e =>
    match s.spareOrder e.request.drive (trackNumber (firstTrack e.request)) with
    | some o => o.requester.isSome && (s.drive e.request.drive).mapState ≠ .degraded
    | none => false
  | none => false

/-- Places the awaiting entries, oldest first, until none is left or one finds no room (R160). -/
def placeAwaiting : List EntryRef → Turn → Turn
  | [], t => t
  | r :: l, t =>
    match t.st.entry r with
    | none => placeAwaiting l (t.upd fun s => { s with awaiting := s.awaiting.filter (· ≠ r) })
    | some e =>
      if t.st.stillAwaiting r then placeAwaiting l t
      else
        let t := t.upd fun s => { s with awaiting := s.awaiting.filter (· ≠ r) }
        match placeSpareTrack r e.request.drive (trackNumber (firstTrack e.request)) t with
        | (t, noRoom) => if noRoom then t else placeAwaiting l t

/-- An order has left the queue: the place is filled under R36, and, when every place freed in the step has been filled,
awaiting entries are placed (R36, R160). -/
def freedPlace (t : Turn) : Turn :=
  let t := fillPlace t
  if t.todo.contains .freedPlace then t else placeAwaiting t.st.awaiting t

end Sys2Proof.Machine
end

