-- ==== Sys2Proof/Machine/History.lean ====
section
/-! DEFINITION. Track-visit outcomes and the Error History Table (8.5, 8.6). -/

namespace Sys2Proof.Machine

/-- The worse of a visit result and a block result (R152). -/
def worseResult (old : Option VisitResult) (new : VisitResult) : VisitResult :=
  match old, new with
  | some .failed, _ => .failed
  | _, .failed => .failed
  | some .retried, _ => .retried
  | _, .retried => .retried
  | _, .clean => .clean

/-- The entry is for the drive and physical track (R154). -/
def HistoryEntry.isFor (e : HistoryEntry) (d : DriveNo) (t : Track) : Bool := e.drive = d && e.track = t

/-- The outcome list meets the candidate rule (R157): 2 FAILED, or 4 RETRIED or FAILED. -/
def meetsCandidateRule (l : List VisitResult) : Bool :=
  decide (2 ≤ l.countP (· = .failed)) || decide (4 ≤ l.countP (· ≠ .clean))

/-- Removes the last entry that satisfies `p`. -/
def removeLast (p : HistoryEntry → Bool) (l : List HistoryEntry) : List HistoryEntry := (l.reverse.eraseP p).reverse

/-- Makes room in a table of 32 entries (R156). The list runs from most to least recently touched. -/
def historyRoom (l : List HistoryEntry) : List HistoryEntry :=
  if l.length < 32 then l
  else if l.any fun e => e.mark = .none then removeLast (fun e => e.mark = .none) l
  else l.dropLast

/-- The table after an outcome of a track that has an owner (R155). -/
def historyAfter (l : List HistoryEntry) (d : DriveNo) (t : Track) (r : VisitResult) : List HistoryEntry :=
  match l.find? fun e => e.isFor d t with
  | some e => { e with outcomes := (r :: e.outcomes).take 8 } :: l.filter fun x => !x.isFor d t
  | none => if r = .clean then l else ⟨d, t, [r], .none, none, none⟩ :: historyRoom l

/-- Marks the entry of the drive and track CANDIDATE with the order for track `n` as its raised order (R157). -/
def State.markCandidate (s : State) (d : DriveNo) (t : Track) (n : Nat) : State :=
  { s with history := s.history.map fun e =>
      if e.isFor d t then { e with mark := .candidate, raised := some n, place := none } else e }

/-- Marks the entry RECOMMENDED; one that is RECOMMENDED already keeps its place (R157). -/
def State.markRecommended (s : State) (d : DriveNo) (t : Track) : State :=
  { s with history := recommendWhere (fun e => e.isFor d t && e.mark ≠ .recommended) (nextPlace s.history) s.history }

/-- The route of R157 for a track owned by `n` whose entry meets the candidate rule. -/
def candidateRoute (d : DriveNo) (t : Track) (n : Nat) (permit : Bool) (u : Turn) : Turn :=
  if (u.st.drive d).autoSparing && (u.st.drive d).mapState = .loaded && permit then
    if (u.st.spareOrder d n).isSome then u.upd fun s => s.markCandidate d t n
    else if u.st.orders.length < 8 then
      (placeTail (newOrder (.spare n .history) d none) u).upd fun s => s.markCandidate d t n
    else u.upd fun s => s.markRecommended d t
  else u.upd fun s => s.markRecommended d t

/-- The candidate rule, applied to the entry just touched (R157). -/
def candidateRule (d : DriveNo) (t : Track) (n : Nat) (permit : Bool) (u : Turn) : Turn :=
  match u.st.history.find? fun e => e.isFor d t with
  | none => u
  | some e => if e.mark ≠ .candidate && meetsCandidateRule e.outcomes then candidateRoute d t n permit u else u

/-- A track visit's outcome is handed to the Error History Table (R153, R155). -/
def recordVisit (d : DriveNo) (t : Track) (r : VisitResult) (permit : Bool) (u : Turn) : Turn :=
  match u.st.owner d t with
  | none => u
  | some n => candidateRule d t n permit (u.upd fun s => { s with history := historyAfter s.history d t r })

/-- A visit ends: its outcome, if it has one, is handed over (R151, R152). -/
def endVisit (d : DriveNo) (t : Option Track) (r : Option VisitResult) (permit : Bool) (u : Turn) : Turn :=
  match t, r with
  | some t, some r => recordVisit d t r permit u
  | _, _ => u

/-- Inserts an entry by mark place. -/
def insertByPlace (e : HistoryEntry) : List HistoryEntry → List HistoryEntry
  | [] => [e]
  | x :: l => if e.place.getD 0 ≤ x.place.getD 0 then e :: x :: l else x :: insertByPlace e l

/-- The RECOMMENDED entries of a drive in order of mark place (R184). -/
def State.recommendedEntries (s : State) (d : DriveNo) : List HistoryEntry :=
  (s.history.filter fun e => e.drive = d && e.mark = .recommended).foldr insertByPlace []

/-- The elements of a list, each at its first place only. -/
def firsts : List Nat → List Nat → List Nat
  | _, [] => []
  | seen, a :: l => if seen.contains a then firsts seen l else a :: firsts (seen ++ [a]) l

/-- The recommended tracks of the sense record (R184). -/
def State.recommendedTracks (s : State) (d : DriveNo) : List Nat :=
  (firsts [] ((s.recommendedEntries d).filterMap fun e => s.owner d e.track)).take 4

end Sys2Proof.Machine
end

