-- ==== Sys2Proof/Machine/Checks.lean ====
section
/-! DEFINITION. The block check and the identity check (8.2). -/

namespace Sys2Proof.Machine

/-- One bit of the division by x^16 + x^12 + x^5 + 1 (R140): the bit joins at the top of the remainder. -/
def crcStep (r : Check16) (bit : Bool) : Check16 :=
  if r.msb != bit then (r <<< 1) ^^^ 0x1021#16 else r <<< 1

/-- The cyclic check over a string of bits, preset to all ones (R140). -/
def crcBits (bits : List Bool) : Check16 := bits.foldl crcStep 0xFFFF#16

/-- The 4,096 data bits of a block in the order in which they are recorded (R140). -/
def dataBits (d : BlockData) : List Bool := (List.range 4096).map fun i => d.getMsbD i

/-- The block check over the 512 data bytes (R140). -/
def blockCheck (d : BlockData) : Check16 := crcBits (dataBits d)

/-- The identity check over the items of an identity field (R141). -/
def identityCheck (f : IdField) : Check16 := crcBits (Config.fieldBits f)

/-- The sixteen bits a recorded check stands for, where the generated check is `g`. -/
def checkWord (c : CheckWord) (g : Check16) : Check16 :=
  match c with
  | .generated => g
  | .complemented => ~~~g
  | .raw w => w

/-- The recorded check equals the generated check `g` (R140): no word equals its complement. -/
def checkAgrees (c : CheckWord) (g : Check16) : Bool :=
  match c with
  | .generated => true
  | .complemented => false
  | .raw w => w == g

/-- The 512 data bytes of a block's content. -/
def contentData : Content → BlockData
  | .bytes d => d
  | .mapPart r i => Config.mapBlock r i

/-- The block check of what came off the surface is good (R140). -/
def dataGood (d : DataRead) : Bool := checkAgrees d.check (blockCheck (contentData d.content))

/-- The identity check of what came off the surface is good (R141). -/
def fieldGood (f : FieldRead) : Bool := checkAgrees f.check (identityCheck f.field)

/-- The block check recorded behind a field: complemented when the field carries the LOST mark (R140). -/
def recordedCheck (f : IdField) : CheckWord := if f.lost then .complemented else .generated

end Sys2Proof.Machine
end

