-- ==== Sys2Proof/Machine/Media.lean ====
section
/-! DEFINITION. The media of the string: one recorded block for each drive, cylinder, head and block, as a list of
(address, block) in canonical form. An address that is not listed reads as manufacture left it. -/

namespace Sys2Proof.Machine

/-- The media address of a block. -/
def mediaKey (d : DriveNo) (t : Track) (b : Nat) : Nat := ((d.val * 656 + t.cyl) * 12 + t.head) * 24 + b

/-- The map record of a drive prepared for the string: valid, no entries, empty retired set (R30). -/
def emptyMapRecord : MapRecord := ⟨0, [], [], true⟩

/-- What manufacture recorded at a media address: a NORMAL field without link and LOST mark (R2), and data of zero
bytes (DESIGN CHOICE, assumption 5), but for the map record on blocks 0–3 of 655/0 (R30). -/
def factoryBlock (k : Nat) : Recorded where
  field := ⟨⟨k / 288 % 656, k / 24 % 12, k % 24, .normal, none, false⟩, .generated⟩
  data :=
    ⟨if k / 288 % 656 = 655 ∧ k / 24 % 12 = 0 ∧ k % 24 < 4 then .mapPart emptyMapRecord (k % 24)
      else .bytes 0#4096, .generated⟩

/-- The block recorded at address `k`. -/
def mediaRead : List MediaCell → Nat → Recorded
  | [], k => factoryBlock k
  | (a, r) :: m, k => if a = k then r else mediaRead m k

/-- Lists `r` at `k`, addresses rising. -/
def mediaPut : List MediaCell → Nat → Recorded → List MediaCell
  | [], k, r => [(k, r)]
  | (a, x) :: m, k, r =>
    if k < a then (k, r) :: (a, x) :: m
    else if k = a then (k, r) :: m
    else (a, x) :: mediaPut m k r

/-- Takes address `k` out of the list. -/
def mediaDrop : List MediaCell → Nat → List MediaCell
  | [], _ => []
  | (a, x) :: m, k => if a = k then m else (a, x) :: mediaDrop m k

/-- Records `r` at address `k`, keeping the canonical form. -/
def mediaWrite (m : List MediaCell) (k : Nat) (r : Recorded) : List MediaCell :=
  if r = factoryBlock k then mediaDrop m k else mediaPut m k r

/-- Every address of the list is above `k`. -/
def mediaAbove (k : Nat) : List MediaCell → Bool
  | [] => true
  | (a, _) :: m => decide (k < a) && mediaAbove k m

/-- The canonical form: addresses strictly rising, no block equal to what manufacture recorded. -/
def mediaCanonical : List MediaCell → Bool
  | [] => true
  | (a, r) :: m => mediaAbove a m && decide (r ≠ factoryBlock a) && mediaCanonical m

/-- The block recorded on drive `d` at `t`, block `b`. -/
def State.recorded (s : State) (d : DriveNo) (t : Track) (b : Nat) : Recorded :=
  mediaRead s.media (mediaKey d t b)

/-- Records a block on drive `d`. -/
def State.record (s : State) (d : DriveNo) (t : Track) (b : Nat) (r : Recorded) : State :=
  { s with media := mediaWrite s.media (mediaKey d t b) r }

/-- A recording of data that was cut off or ended in Write Fault: what it left on the disk is free (assumption 6).
`withField`: the identity field was being recorded too. -/
def State.disturb (s : State) (d : DriveNo) (t : Track) (b : Nat) (withField : Bool) : State :=
  let old := s.recorded d t b
  let field := if withField then Config.disturbedField s.freeIndex else old.field
  { s.record d t b ⟨field, Config.disturbedData s.freeIndex⟩ with freeIndex := s.freeIndex + 1 }

end Sys2Proof.Machine
end

