-- ==== Sys2Proof/Machine/Windows.lean ====
section
/-! DEFINITION. Reconnect windows: arming, opening, expiry, disarming; sending a drive to a track (chapter 3). -/

namespace Sys2Proof.Machine

/-- A window opens: PENDING, and the drive is in the arbiter's pending set (R58, R114). -/
def State.openWindow (s : State) (d : DriveNo) : State :=
  (s.onWindow d fun w => { w with state := .pending }).setPending (driveSlot d) true

/-- Arms a window for a block with a lead (R57). With rotation known it opens at once when it is a HOLD-PATH window
(R59) or the angular position is its sector (R58). -/
def State.armWindow (s : State) (d : DriveNo) (block lead : Nat) (hold : Bool) : State :=
  let sector := windowSector block lead
  let s := s.onWindow d fun _ => ⟨.waiting, block, sector, hold⟩
  if (s.drive d).rotationKnown && (hold || (s.drive d).angle = sector) then s.openWindow d else s

/-- Disarms a window, which leaves the pending set (R60). -/
def State.disarm (s : State) (d : DriveNo) : State :=
  (s.onWindow d fun w => { w with state := .disarmed }).setPending (driveSlot d) false

/-- A host context's package counts one more revolution lost (R117). -/
def Package.loseRevolution (p : Package) : Package := { p with revsLost := saturate (p.revsLost + 1) }

/-- Changes the package in a slot. -/
def State.onSlot (s : State) (i : Fin 9) (f : Package → Package) : State := s.setSlot i ((s.slot i).map f)

/-- A PENDING window without hold expires: a miss (R58, R117). A work context's miss is not counted. -/
def State.expireWindow (s : State) (d : DriveNo) : State :=
  let w := s.window d
  if w.state = .pending && !w.hold then
    let s := (s.onWindow d fun w => { w with state := .waiting }).setPending (driveSlot d) false
    if (s.work d).isNone then s.onSlot (driveSlot d) Package.loseRevolution else s
  else s

/-- Opens a WAITING window after a mark, when rotation is known and it is a HOLD-PATH window or the angular position
has become its sector (R58, R59). -/
def State.openAtMark (s : State) (d : DriveNo) : State :=
  let w := s.window d
  if w.state = .waiting && (s.drive d).rotationKnown && (w.hold || (s.drive d).angle = w.sector)
  then s.openWindow d else s

/-- The lead of a package's context at this arming (R48). -/
def State.leadOf (s : State) (p : Package) : Nat := hostLead p.kind p.verify (s.port p.request.port).linkClass

/-- Arms the window of drive `d` for the next block of the context in its slot (R57). The missed block boundary of a
mismatch recovery is counted at this arming (R110). -/
def State.armHost (s : State) (d : DriveNo) : State :=
  match s.slot (driveSlot d) with
  | none => s
  | some p =>
    let s := if (s.drive d).boundaryMissed then
        (s.onSlot (driveSlot d) Package.loseRevolution).onDrive d fun r => { r with boundaryMissed := false }
      else s
    s.armWindow d p.nextBlock (s.leadOf p) p.flags.holdPath

/-- The drive enters ORIENTING with its window armed (R8, R9, R10). -/
def State.orient (s : State) (d : DriveNo) : State :=
  (s.onDrive d fun r => { r with state := .orienting }).armHost d

/-- Sends a drive to a physical track for its dispatched request: HEAD SELECT, then SEEK and SEEKING, or ORIENTING
when the arm is on the cylinder (R8). -/
def State.sendTo (s : State) (d : DriveNo) (t : Track) : State :=
  let s := s.headSelect d t.head
  if t.cyl = (s.drive d).cylinder then s.orient d
  else (s.seek d t.cyl).onDrive d fun r => { r with state := .seeking }

/-- The track under the selected head of a drive, as the drive record has it. -/
def State.under (s : State) (d : DriveNo) : Track := ⟨(s.drive d).cylinder, (s.drive d).head⟩

end Sys2Proof.Machine
end

