-- ==== Sys2Proof/Machine/Path.lean ====
section
/-! DEFINITION. Path Control: completion exchange, exchange-out, abandonment, the reconnect arbiter (chapter 6), and
how a completion record is assembled (10.1). -/

namespace Sys2Proof.Machine

/-! ## Leaving the path -/

/-- The Active Context is emptied and the Data Path reset (R139). The path is free at once, or at the next mark of
drive `d` (R105, R106, R112). -/
def State.dropActive (s : State) (d : DriveNo) (atOnce : Bool) : State :=
  { s with
    active := none
    dataPath := DataPath.empty
    arbiter := { s.arbiter with
      holder := if atOnce then none else s.arbiter.holder
      freeAt := if atOnce then none else some d } }

/-- The drive enters IDLE (R10): nothing dispatched, recalibration count 0, mismatch track none, its slot free; a
dispatch offer is due (R41). -/
def enterIdle (d : DriveNo) (t : Turn) : Turn :=
  (t.upd fun s => (s.onDrive d fun r =>
      { r with
        state := .idle, dispatched := none, recalCount := 0, mismatch := none
        orphaned := false, boundaryMissed := false }).setSlot (driveSlot d) none).push (.offer d)

/-- The image service context has ended: an Image Area kept for it is released (R170), and the search of R164 comes before
any other follow-up (assumption 24). -/
def imageContextEnded (t : Turn) : Turn :=
  if t.st.image.owner = .imageService then
    (t.upd fun s => { s with image :=
      { s.image with owner := .none, tags := Vector.replicate 24 .empty } }).push .imageFreed
  else t

/-! ## Completion (R106, R176–R179, R182) -/

/-- Why a dispatched or image service request completes (R177). A second identity mismatch is a `condition`, which R111
lists with the others (assumption 32). -/
inductive Ending where
  | finished | condition | notReady | faulted | writeFault
deriving DecidableEq, Repr

/-- The condition an ending adds (R177). -/
def Ending.adds : Ending → Option Condition
  | .finished => none
  | .condition => none
  | .notReady => none
  | .faulted => some .positionFault
  | .writeFault => some .writeFault

/-- The conditions of the record (R177, R178). -/
def recordConditions (e : Ending) (p : Package) : List Condition :=
  let l := match e.adds with
    | some c => addCondition c p.conditions
    | none => p.conditions
  if p.flags.showRecovered then l else l.filter fun c => c ≠ .recovered

/-- The outcome of the record (R177). -/
def recordOutcome (e : Ending) (p : Package) : Outcome :=
  match e with
  | .notReady => .notReady
  | .finished => if p.flags.showRecovered && p.conditions.contains .recovered then .recovered else .normal
  | .condition => .check
  | .faulted => .check
  | .writeFault => .check

/-- The completion record of a package (R176, R179). -/
def buildRecord (e : Ending) (p : Package) : CompletionRecord where
  tag := p.request.tag
  drive := p.drive
  kind := p.kind
  outcome := recordOutcome e p
  conditions := recordConditions e p
  transferred := p.transferred
  retries := p.retries
  revsLost := p.revsLost
  relocated := min p.relocated 4

/-- The endings whose visit yields no outcome (R152). -/
def Ending.dropsVisit : Ending → Bool
  | .notReady => true
  | .faulted => true
  | .finished => false
  | .condition => false
  | .writeFault => false

/-- The last check of a drive after a completion with outcome CHECK (R182). -/
def State.noteCheck (s : State) (d : DriveNo) (i : Fin 9) (track : Option Track) (r : CompletionRecord) : State :=
  if r.outcome = .check then
    match (if i = imageSlot then s.image.source else track) with
    | some t => s.onMap d fun m => { m with lastCheck := some ⟨r.conditions, t⟩ }
    | none => s
  else s

/-- The request of package `p` in slot `i` completes (R106): its visit's outcome is handed over (R153), its record
joins the Status Queue, its entry leaves the Request Queue and its slot is freed, in one step. -/
def completeRequest (i : Fin 9) (p : Package) (track : Option Track) (e : Ending) (t : Turn) : Turn :=
  let t := if e.dropsVisit then t else endVisit p.drive p.visitTrack p.visitResult p.flags.sparePermit t
  let r := buildRecord e p
  let t := t.upd fun s =>
    (((s.appendRecord p.request.port r).removeEntry p.request).setSlot i none).noteCheck p.drive i track r
  let t := if i = imageSlot then imageContextEnded t else t
  ((t.push (.passThrough p.request.port p.drive)).push (.offer p.drive)).push .imageCheck

/-- The connected host request completes (R106). A drive request's drive enters IDLE, unless the ending is that of a
drive event which gives the state itself. -/
def completeConnected (e : Ending) (t : Turn) : Turn :=
  match t.st.active with
  | some a =>
    match a.conn with
    | .host p i =>
      let t := completeRequest i p a.diskPhysical e t
      let t := t.upd fun s => (s.endConnection p.request.port).dropActive a.drive (e = .notReady)
      if i = imageSlot || e.dropsVisit then t
      else enterIdle a.drive (t.upd fun s => s.offset a.drive .none)
    | .work _ => t
  | none => t

/-! ## Abandonment (R112) -/

/-- A block of the connected context is in progress: a disk block, or for image service a port block (assumption
12). -/
def State.blockInProgress (s : State) : Bool :=
  match s.active with
  | some a =>
    a.blockMarks.isSome ||
      (match a.conn with
       | .host _ i => i = imageSlot && s.dataPath.port = .carrying
       | .work _ => false)
  | none => false

/-- The context of package `p` in slot `i`, connected at drive `d`, is taken off the path (R112): slot freed, data
connection ended, path free at once. -/
def State.abandonPath (s : State) (d : DriveNo) (p : Package) (i : Fin 9) : State :=
  ((s.setSlot i none).endConnection p.request.port).dropActive d true

/-- The connected host context is abandoned: no record (R112). A drive that was CONNECTED for it enters IDLE (R19,
R20). -/
def abandonConnected (t : Turn) : Turn :=
  match t.st.active with
  | some a =>
    match a.conn with
    | .host p i =>
      let t := t.upd fun s => s.abandonPath a.drive p i
      if i = imageSlot then (imageContextEnded t).push .imageCheck
      else if (t.st.drive a.drive).state = .connected then
        enterIdle a.drive (t.upd fun s => s.offset a.drive .none)
      else t
    | .work _ => t
  | none => t

/-- The connected host context is abandoned at the end of the block in progress, or at once if none is (R112). -/
def abandonSoon (t : Turn) : Turn :=
  if t.st.blockInProgress then t.upd fun s => s.onActive fun a => { a with abandoned := true }
  else abandonConnected t

/-! ## Exchange-out (R105) -/

/-- The package as exchange-out copies it back: the pacing count returns to it (R131), and the ladder's step, which
is moved to the held retry step when blocks before the failed block are to be taken again (R150). A step already held
for a later block is then lost: R101 has one such item, and that the newer step takes it is DESIGN CHOICE (assumption
23). -/
def writeBack (a : Active) (dp : DataPath) (p : Package) : Package :=
  let p := { p with pacing := dp.pacing }
  if dp.step ≠ 0 && a.diskLeft ≠ p.count then
    { p with retryStep := 0, heldStep := some (dp.step, p.baseCount - a.diskLeft) }
  else { p with retryStep := dp.step }

/-- The exchange-out itself, without what the disconnection point sets off (R105): package or work context back in
its place, data connection ended, offset NONE (R149), path free at the next mark. -/
def State.disconnect (s : State) : State :=
  match s.active with
  | some a =>
    match a.conn with
    | .host p i =>
      ((s.setSlot i (some (writeBack a s.dataPath p))).endConnection p.request.port).dropActive a.drive false
    | .work w => (s.setWork a.drive (some { w with step := s.dataPath.step })).dropActive a.drive false
  | none => s

/-- An exchange-out at a disconnection point is due (R107–R109): on a read the ring has drained, on a write and in a
verify pass at once. -/
def State.exchangeOutDue (s : State) : Bool :=
  match s.active with
  | some a =>
    !a.abandoned &&
    (match a.leaving with
     | none => false
     | some .ended => false
     | some _ =>
       match a.conn with
       | .host p _ => p.kind ≠ .readBlocks || (s.dataPath.ring.isEmpty && s.dataPath.port = .idle)
       | .work _ => true)
  | none => false

/-- What follows an exchange-out on drive `d` (R105, R107–R109). -/
def State.resume (s : State) (d : DriveNo) (why : Leaving) : State :=
  match s.slot (driveSlot d) with
  | none => s
  | some p =>
    match why with
    | .relocation => s.sendTo d (p.physical.getD p.logical)
    | .verifyPass => s.sendTo d (p.physical.getD p.logical)
    | .retryWait => (s.onSlot (driveSlot d) Package.loseRevolution).orient d
    | .pacingLoss => s.orient d
    | .ended => s

/-- Takes the exchange-out that is due (R105): relocation (R107) takes the disk side's translation, a retry wait
counts a revolution at the rearm (R108), and the drive is rearmed or sent to its track. -/
def takeExchangeOut (t : Turn) : Turn :=
  if t.st.exchangeOutDue then
    match t.st.active with
    | some a =>
      match a.conn with
      | .host _ _ =>
        t.upd fun s =>
          let s := if a.leaving = some .relocation then
              s.onPackage fun p => { p with physical := a.diskPhysical, throughAlt := a.diskThroughAlt }
            else s
          (s.disconnect.offset a.drive .none).resume a.drive (a.leaving.getD .ended)
      | .work _ =>
        t.upd fun s =>
          let s := s.disconnect.offset a.drive .none
          match s.work a.drive with
          | some w => s.armWindow a.drive w.nextBlock workLead false
          | none => s
    | none => t
  else t

/-! ## The reconnect arbiter (R113–R116) -/

/-- The host package a requester stands for, if it stands for one: a drive's work context comes before it, since work
runs only while nothing is dispatched (R114). -/
def State.requesterPackage (s : State) (i : Fin 9) : Option Package :=
  if h : i.val < 8 then
    if (s.work ⟨i.val, h⟩).isSome then none else s.slot i
  else s.slot i

/-- A pending requester is masked while its context's port has its link in EXCHANGE (R115). -/
def State.masked (s : State) (i : Fin 9) : Bool :=
  match s.requesterPackage i with
  | some p => !p.verify && (s.port p.request.port).link = .exchange
  | none => false

/-- The requesters in rotating order after the last-granted pointer (R116). -/
def rotation (last : Fin 9) : List (Fin 9) :=
  (List.range 9).map fun k => ⟨(last.val + 1 + k) % 9, Nat.mod_lt _ (by omega)⟩

/-- The data path is free (R113). -/
def State.pathFree (s : State) : Bool :=
  s.arbiter.holder.isNone && s.active.isNone && s.arbiter.freeAt.isNone

/-- The requester the arbiter grants, if any (R116). -/
def State.nextGrant (s : State) : Option (Fin 9) :=
  if s.pathFree then (rotation s.arbiter.lastGranted).find? fun i => s.arbiter.pendingSet[i] && !s.masked i
  else none

/-- The grant in the arbiter itself (R116). -/
def State.arbiterGrants (s : State) (i : Fin 9) : State :=
  { s with arbiter :=
    { s.arbiter with
      holder := some i, lastGranted := i, freeAt := none, pendingSet := s.arbiter.pendingSet.set i false } }

/-- The Active Context a granted host package makes (R99, R103). -/
def activeOfPackage (p : Package) (i : Fin 9) : Active where
  conn := .host p i
  drive := p.drive
  diskLogical := p.logical
  diskPhysical := p.physical
  diskThroughAlt := p.throughAlt
  diskBlock := p.nextBlock
  diskLeft := p.count
  grantPeriod := true
  phase := .granted
  blockMarks := none
  fieldFailed := false
  rewrite := none
  retryDue := false
  leaving := none
  abandoned := false

/-- The Active Context a granted work context makes (R99, R103). -/
def activeOfWork (d : DriveNo) (w : Work) : Active where
  conn := .work w
  drive := d
  diskLogical := w.track
  diskPhysical := some w.track
  diskThroughAlt := false
  diskBlock := w.nextBlock
  diskLeft := w.left
  grantPeriod := true
  phase := .granted
  blockMarks := none
  fieldFailed := false
  rewrite := none
  retryDue := false
  leaving := none
  abandoned := false

/-- The Data Path at a grant (R103, R120). -/
def dataPathAtGrant (step pacing : Nat) (disk : DiskSide) : DataPath :=
  { DataPath.empty with step := step, pacing := pacing, disk := disk }

/-- A data connection is opened on the link at the grant, unless the context is in its verify pass (R66, R119). -/
def State.openConnection (s : State) (p : Package) : State :=
  if p.verify then s else s.onPort p.request.port fun u => { u with link := .data }

/-- Grants requester `i` (R103, R116). -/
def State.grant (s : State) (i : Fin 9) : State :=
  let s := s.arbiterGrants i
  if h : i.val < 8 then
    let d : DriveNo := ⟨i.val, h⟩
    let s := s.onWindow d fun w => { w with state := .disarmed }
    match s.work d with
    | some w => { s with active := some (activeOfWork d w), dataPath := dataPathAtGrant w.step 0 .active }
    | none =>
      match s.slot i with
      | some p =>
        { (s.openConnection p).onDrive d (fun r => { r with state := .connected }) with
          active := some (activeOfPackage p i), dataPath := dataPathAtGrant p.retryStep p.pacing .active }
      | none => { s with arbiter := { s.arbiter with holder := none } }
  else
    match s.slot i with
    | some p =>
      { s.openConnection p with
        active := some (activeOfPackage p i), dataPath := dataPathAtGrant p.retryStep p.pacing .halted }
    | none => { s with arbiter := { s.arbiter with holder := none } }

end Sys2Proof.Machine
end

