-- ==== Sys2Proof/Machine/Sparing.lean ====
section
/-! DEFINITION. Map loads, map writes and sparing operations: the map buffer, the work contexts, the steps S1 to S7 and
the ends of an order (chapters 2 and 9). -/

namespace Sys2Proof.Machine

/-! ## The Image Area (R164, R170) -/

/-- Every image tag EMPTY. -/
def emptyTags : Vector ImageTag 24 := Vector.replicate 24 .empty

/-- An order gives up the Image Area (R170): it goes to the remaining image service context, if slot 8 holds one, and
otherwise has no owner, and the search of R164 comes before any other follow-up, every dispatch offer included (DESIGN
CHOICE, assumption 24). -/
def releaseImage (t : Turn) : Turn :=
  if (t.st.slot imageSlot).isSome then
    t.upd fun s => { s with image := { s.image with owner := .imageService } }
  else (t.upd fun s => { s with image := { s.image with owner := .none, tags := emptyTags } }).push .imageFreed

/-! ## The map buffer and the work contexts (R29, R102) -/

/-- The drive's map operation gives up the map buffer, or leaves the waiting operations (R29). -/
def State.leaveBuffer (s : State) (d : DriveNo) : State :=
  { s with mapBuffer :=
    { s.mapBuffer with
      owner := if s.mapBuffer.owner.any (fun o => o.drive = d) then none else s.mapBuffer.owner
      waiting := s.mapBuffer.waiting.filter fun o => o.drive ≠ d } }

/-- Arms the window of a drive's work context for its next block (R31, R34, R48). While a positioning command of the
drive is unanswered the window waits for the arm. -/
def State.armWork (s : State) (d : DriveNo) : State :=
  match s.work d with
  | some w => if (s.drive d).unanswered = .stopped then s.armWindow d w.nextBlock workLead false else s
  | none => s

/-- Makes a work context and arms its window for block 0 (R102). -/
def State.beginWork (s : State) (d : DriveNo) (kind : WorkKind) (track : Track) (left : Nat) : State :=
  (s.setWork d (some ⟨kind, track, 0, left, 0, none, none, none⟩)).armWork d

/-- S2 begins (R166): the write-ahead of an order in S1. Nothing changes for a map write of another step. -/
def State.beginS2 (s : State) (d : DriveNo) : State :=
  match s.startedOrder d with
  | some o =>
    match o.track, o.newAlt, o.step with
    | some n, some a, .s1 => (s.onStarted d fun o => { o with step := .s2 }).onMap d fun m => m.writeAhead n a
    | _, _, _ => s
  | none => s

/-- A map operation takes the map buffer and its window is armed (R29, R31, R34). One that waits keeps its turn, and takes
the buffer, also while its drive recalibrates after a Position Fault; its window is then armed when the arm has come back
(DESIGN CHOICE, assumption 39). -/
def State.takeBuffer (s : State) (op : MapOp) : State :=
  let s := { s with mapBuffer := ⟨some op, s.mapBuffer.waiting.filter (· ≠ op), []⟩ }
  if op.load then s.beginWork op.drive .mapLoad mapTrack 4
  else
    let s := s.beginS2 op.drive
    let r := (s.map op.drive).toRecord
    let s := { s with mapBuffer :=
      { s.mapBuffer with blocks := [.mapPart r 0, .mapPart r 1, .mapPart r 2, .mapPart r 3] } }
    (s.onMap op.drive fun m => { m with writeOwed := false }).beginWork op.drive .mapWrite mapTrack 4

/-- A map operation asks for the map buffer (R29). -/
def State.askBuffer (s : State) (op : MapOp) : State :=
  if s.mapBuffer.owner = some op || s.mapBuffer.waiting.contains op then s
  else if s.mapBuffer.owner.isNone && s.mapBuffer.waiting.isEmpty then s.takeBuffer op
  else { s with mapBuffer := { s.mapBuffer with waiting := s.mapBuffer.waiting ++ [op] } }

/-! ## Where an order sends its drive -/

/-- The track that holds the data before the move: the old alternate, or the track's own (R167). -/
def Order.sourceTrack (o : Order) (n : Nat) : Track :=
  match o.oldAlt with
  | some a => alternateTrack a
  | none => trackOfNumber n

/-- The physical track an order's step works on (R165–R170). -/
def Order.place (o : Order) : Track :=
  match o.kind, o.step with
  | .spare n _, .s3 => o.sourceTrack n
  | .spare _ _, .s4 => (o.newAlt.map alternateTrack).getD mapTrack
  | .spare n _, .s5 => trackOfNumber n
  | _, _ => mapTrack

/-- The drive is positioned for its order's step (R57): a map write asks for the map buffer, another step makes its
work context. -/
def State.beginStep (s : State) (d : DriveNo) (o : Order) : State :=
  match o.step with
  | .s1 => s.askBuffer ⟨d, false⟩
  | .s2 => s.askBuffer ⟨d, false⟩
  | .s6 => s.askBuffer ⟨d, false⟩
  | .running => s.askBuffer ⟨d, false⟩
  | .s3 => s.beginWork d .sparingRead o.place 24
  | .s4 => s.beginWork d .sparingWrite o.place 24
  | .s5 => s.beginWork d .sparingMark o.place 24
  | .s7 => s
  | .notStarted => s

/-- The arm of a drive in LOADING-MAP or SPARING has arrived (R9, R12): a work context's window is armed again, or the
map load or the order's step goes on. -/
def State.workArrived (s : State) (d : DriveNo) : State :=
  let s := s.onDrive d fun r => { r with boundaryMissed := false }
  match s.work d with
  | some w => if w.result.isNone then s.armWork d else s
  | none =>
    match (s.drive d).state with
    | .loadingMap => s.askBuffer ⟨d, true⟩
    | .sparing =>
      match s.startedOrder d with
      | some o => s.beginStep d o
      | none => s
    | _ => s

/-- The track a drive in LOADING-MAP or SPARING is to be positioned at. -/
def State.workPlace (s : State) (d : DriveNo) : Track :=
  match s.startedOrder d with
  | some o => o.place
  | none => mapTrack

/-- Sends the drive to its order's place: HEAD SELECT, and SEEK; for a map write and for S5, no SEEK when the arm is on
the cylinder (R34, R165, R167–R169). -/
def State.sendToStep (s : State) (d : DriveNo) : State :=
  match s.startedOrder d with
  | some o =>
    let s := s.headSelect d o.place.head
    if (o.step = .s3 || o.step = .s4) || o.place.cyl ≠ (s.drive d).cylinder then s.seek d o.place.cyl
    else s.workArrived d
  | none => s

/-- The started order enters a step and its drive is sent there. S4 makes an image service check (R136). -/
def enterStep (d : DriveNo) (step : OrderStep) (t : Turn) : Turn :=
  let t := t.upd fun s => (s.onStarted d fun o => { o with step := step }).sendToStep d
  if step = .s4 then t.push .imageCheck else t

/-- S3 is entered: its source is the track the image is taken from (R167, R182). -/
def enterS3 (d : DriveNo) (t : Turn) : Turn :=
  let t := enterStep d .s3 t
  t.upd fun s => { s with image := { s.image with source := some (s.workPlace d) } }

/-- S6 is entered: the commit, then the map write (R170). -/
def enterS6 (d : DriveNo) (t : Turn) : Turn :=
  match t.st.startedOrder d with
  | some o =>
    match o.track, o.newAlt with
    | some n, some a => enterStep d .s6 (t.upd fun s => s.onMap d fun m => m.commit n a o.oldAlt)
    | _, _ => t
  | none => t

/-! ## Ends of an order -/

/-- The requesting entry of an ended order is given its result (R162). -/
def answerRequester (d : DriveNo) (o : Order) (result : EntryRef → SpareResult) (t : Turn) : Turn :=
  match o.requester with
  | some r => giveResult d (result r) t
  | none => t

/-- The started SPARE order fails (R171). A failure in S1 changes no table item. A place that frees is filled first, then
the search at the freed Image Area is made, before any dispatch offer (DESIGN CHOICE, assumption 24). -/
def failOrder (d : DriveNo) (c : Condition) (t : Turn) : Turn :=
  match t.st.startedOrder d with
  | some o =>
    match o.track with
    | some n =>
      let t := if o.step = .s1 then t else t.upd fun s => s.onMap d fun m => m.restore n
      let t := if o.recorded && (t.st.drive d).mapState = .loaded then placeMapWrite d t else t
      let t := orderLeaves o (releaseImage (t.upd fun s => (s.unraise d n).setWork d none))
      let t := answerRequester d o (fun r => failedResult r c o.retryCount) t
      enterIdle d (releaseHeld d t)
    | none => t
  | none => t

/-- The image blocks tagged READ. -/
def State.imageRead (s : State) : Nat := s.image.tags.toList.countP (· = .read)

/-- The committed result (R162). -/
def committedResult (s : State) (o : Order) (r : EntryRef) : SpareResult where
  ref := r
  outcome := .normal
  conditions :=
    if s.image.tags.toList.any (· = .unreadable) then [.lostBlock, .alternateUsed] else [.alternateUsed]
  transferred := s.imageRead
  retries := o.retryCount
  relocated := 1

/-- S7 (R170), in one step. The place that frees is filled first, then the search at the freed Image Area is made, before
any dispatch offer (DESIGN CHOICE, assumption 24). -/
def finishOrder (d : DriveNo) (t : Turn) : Turn :=
  match t.st.startedOrder d with
  | some o =>
    match o.track with
    | some n =>
      let result := committedResult t.st o
      let t := orderLeaves o (releaseImage (t.upd fun s => (s.committedMarks d n (o.sourceTrack n)).setWork d none))
      let t := answerRequester d o result t
      enterIdle d (releaseHeld d t)
    | none => t
  | none => t

/-- The new alternate has failed (R168): it is retired, the lowest free index replaces it and the order returns to S2;
or no index is free and the order fails. -/
def alternateFailed (d : DriveNo) (t : Turn) : Turn :=
  match t.st.startedOrder d with
  | some o =>
    match o.track, o.newAlt with
    | some n, some a =>
      let t := t.upd fun s => ((s.onMap d fun m => m.retire a).onStarted d fun o =>
        { o with retryCount := o.retryCount + 1 }).setWork d none
      match (t.st.map d).lowestFree with
      | some b =>
        enterStep d .s2 (t.upd fun s => (s.onMap d fun m =>
          { m with table := tableAlter m.table n fun e => { e with alternate := b } }).onStarted d fun o =>
            { o with newAlt := some b })
      | none => failOrder d .alternatesExhausted t
    | _, _ => t
  | none => t

/-- A MAP-WRITE order ends (R173). -/
def finishMapWrite (d : DriveNo) (o : Order) (t : Turn) : Turn :=
  enterIdle d (orderLeaves o (t.upd fun s => s.setWork d none))

/-- A started order ends DRIVE-LOST (R174): nothing is restored, and the drive's state is the caller's. -/
def orderLost (d : DriveNo) (t : Turn) : Turn :=
  let t := t.upd fun s => (s.setWork d none).leaveBuffer d
  match t.st.startedOrder d with
  | some o =>
    match o.track with
    | some n =>
      let t := orderLeaves o (releaseImage (t.upd fun s => s.unraise d n))
      answerRequester d o (fun r => failedResult r .driveLost o.retryCount) t
    | none => orderLeaves o t
  | none => t

/-- A SPARE order still in S1 is abandoned by a string reset (R175). Its drive enters IDLE, once an unanswered SEEK has
come to its end. -/
def abandonS1 (d : DriveNo) (t : Turn) : Turn :=
  match t.st.startedOrder d with
  | some o =>
    if o.step = .s1 then
      let t := t.upd fun s => (s.onStarted d fun o =>
        { o with step := .notStarted, newAlt := none, oldAlt := none, retryCount := 0 }).leaveBuffer d
      let t := releaseImage (releaseHeld d t)
      if (t.st.drive d).timer = .stopped then enterIdle d t
      else t.upd fun s => s.onDrive d fun r => { r with orphaned := true }
    else t
  | none => t

/-! ## Entries that lose their order, and a map that becomes DEGRADED (R89, R163) -/

/-- The entry loses its sparing order reference and leaves the awaiting list. -/
def State.dropReference (s : State) (r : EntryRef) : State :=
  { s.onEntry r (fun e => { e with orderTrack := none }) with awaiting := s.awaiting.filter (· ≠ r) }

/-- The order of a marked SPARE TRACK entry, when it has not started, loses its requesting entry; one of origin REQUEST
is removed (R89, R163). -/
def detachEntry (r : EntryRef) (t : Turn) : Turn :=
  let t := t.upd fun s => s.dropReference r
  match t.st.orders.find? fun o => o.requester = some r && !o.started with
  | some o =>
    let t := t.upd fun s => s.onOrder o fun o => { o with requester := none }
    if o.origin = some .request then orderRemoved { o with requester := none } t else t
  | none => t

/-- Gives an entry of drive `d` whose order cannot run the result SPARING-UNAVAILABLE (R163). -/
def sparingUnavailable (d : DriveNo) (r : EntryRef) (t : Turn) : Turn :=
  giveResult d (failedResult r .sparingUnavailable 0) (t.upd fun s => s.dropReference r)

/-- The awaiting entries for drive `d`. -/
def State.awaitingFor (s : State) (d : DriveNo) : List EntryRef :=
  s.awaiting.filter fun r => (s.entry r).any fun e => e.request.drive = d

/-- The SPARE orders of drive `d` that have not started. -/
def State.unstartedSpare (s : State) (d : DriveNo) : List Order :=
  s.orders.filter fun o => o.drive = d && !o.started && o.track.isSome

/-- The COPYING entries of no started order are restored and their holds end (R163). -/
def restoreOthers (d : DriveNo) (t : Turn) : Turn :=
  let s := t.st
  let copying := (s.map d).table.filter fun e =>
    e.state = .copying && !((s.spareOrder d e.track).any fun o => o.started)
  let t := t.upd fun s => copying.foldl (fun s e => s.onMap d fun m => m.restore e.track) s
  releaseHeld d (t.upd fun s => s.onMap d fun m => { m with unplaced := [] })

/-- The drive's map state has become DEGRADED (R163), by a map load, or by a failed map write, which also restores the
COPYING entries. The orders that are removed go in Sparing Queue order (DESIGN CHOICE, assumption 35). -/
def mapDegraded (d : DriveNo) (byWrite : Bool) (t : Turn) : Turn :=
  let t := if byWrite then restoreOthers d t else t
  let orders := t.st.unstartedSpare d
  let t := t.each orders fun o t =>
    match o.requester with
    | some r => sparingUnavailable d r (t.upd fun s => s.onOrder o fun o => { o with requester := none })
    | none => t
  let t := t.each (t.st.awaitingFor d) (sparingUnavailable d)
  t.each (orders.filter fun o => o.origin = some .request) fun o => orderRemoved { o with requester := none }

/-- Sets the map state of a drive. -/
def State.setMapState (s : State) (d : DriveNo) (m : MapState) : State :=
  s.onDrive d fun r => { r with mapState := m }

/-! ## Starting an order (R164, R165, R172) -/

/-- S1 is entered (R165): affected entries become HELD and an alternate is chosen, or the order fails at once. -/
def enterS1 (d : DriveNo) (n : Nat) (t : Turn) : Turn :=
  let t := t.upd fun s => (s.onStarted d fun o => { o with step := .s1 }).holdTouching d
  let m := t.st.map d
  let old := match tableEntry m.table n with
    | some e => if e.state = .committed then some e.alternate else none
    | none => none
  match m.lowestFree with
  | some a => t.upd fun s => (s.onStarted d fun o => { o with oldAlt := old, newAlt := some a }).sendToStep d
  | none => failOrder d .alternatesExhausted (t.upd fun s => s.onStarted d fun o => { o with oldAlt := old })

/-- The COPYING entry a RECOVERY order starts from, if the table holds it (R172). -/
def State.recoveryEntry (s : State) (d : DriveNo) (o : Order) (n : Nat) : Option SpareEntry :=
  if o.origin = some .recovery then (tableEntry (s.map d).table n).filter fun e => e.state = .copying else none

/-- An order that can start starts (R164): its drive enters SPARING (R18). -/
def startOrder (o : Order) (t : Turn) : Turn :=
  let d := o.drive
  let t := t.upd fun s => s.onDrive d fun r =>
    { r with state := .sparing, recalCount := 0, mismatch := none, deferred := false }
  match o.track with
  | none => enterStep d .running (t.upd fun s => s.onOrder o fun o => { o with step := .running })
  | some n =>
    let t := t.upd fun s => { s with image := { s.image with owner := .order d, tags := emptyTags } }
    match t.st.recoveryEntry d o n with
    | some e =>
      enterS3 d (t.upd fun s => s.onOrder o fun o =>
        { o with step := .s3, newAlt := some e.alternate, oldAlt := e.former, retryCount := 0 })
    | none => enterS1 d n (t.upd fun s => s.onOrder o fun o => { o with step := .s1 })

/-! ## Ends of the work (MAP_LOAD_END to SPARING_MARK_END) -/

/-- The result of a drive's work context of one of the given kinds, if its work has ended. -/
def State.workEnd (s : State) (d : DriveNo) (kinds : List WorkKind) : Option (Work × WorkResult) :=
  match s.work d with
  | some w => if kinds.contains w.kind then w.result.map fun r => (w, r) else none
  | none => none

/-- The RECOVERY orders of one load, ascending, each `k` places behind the head (R32). -/
def placeRecoveries (d : DriveNo) : Nat → List Nat → Turn → Turn
  | _, [], t => t
  | k, n :: l, t =>
    match placeRecovery k d n none t with
    | some t => placeRecoveries d (k + 1) l t
    | none => placeRecoveries d k l (t.upd fun s => s.onMap d fun m => { m with unplaced := m.unplaced ++ [n] })

/-- The table and retired set a map load leaves (R32, R33). -/
def State.loadMap (s : State) (d : DriveNo) (table : List SpareEntry) (retired : List Nat) (m : MapState) : State :=
  ((s.setMapState d m).onMap d fun x =>
    { x with table := table, retired := retired, writeOwed := false, unplaced := [] })

/-- A map load has read its blocks, or found no readable record (R31–R33, R7). -/
def loadEnds (d : DriveNo) (r : WorkResult) (t : Turn) : Turn :=
  let record := recordOfBlocks t.st.mapBuffer.blocks
  let t := t.upd fun s => (s.setWork d none).leaveBuffer d
  let t :=
    if r = .done && recordValid record then
      let t := t.upd fun s => (s.loadMap d record.entries record.retired .loaded).holdTouching d
      placeRecoveries d 0 ((record.entries.filter fun e => e.state = .copying).map SpareEntry.track) t
    else mapDegraded d false (t.upd fun s => s.loadMap d [] [] .degraded)
  enterIdle d (t.upd fun s => s.addAttention d)

/-- MAP_LOAD_END (R31). -/
def mapLoadEnd (d : DriveNo) (t : Turn) : Turn :=
  match t.st.workEnd d [.mapLoad] with
  | some (_, r) => loadEnds d r t
  | none => t

/-- A map write has ended (R34, R35): what its order does then (R166, R170, R173). -/
def mapWriteEnds (d : DriveNo) (o : Order) (ok : Bool) (t : Turn) : Turn :=
  match o.step with
  | .running =>
    let t := finishMapWrite d o t
    if ok then t else mapDegraded d true t
  | .s2 =>
    if ok then
      let t := t.upd fun s => s.onStarted d fun o => { o with recorded := true }
      if o.retryCount = 0 then enterS3 d t else enterStep d .s4 t
    else mapDegraded d true (failOrder d .sparingUnavailable t)
  | .s6 => finishOrder d (if ok then t else mapDegraded d true t)
  | _ => t

/-- MAP_WRITE_END (R34). -/
def mapWriteEnd (d : DriveNo) (t : Turn) : Turn :=
  match t.st.workEnd d [.mapWrite, .mapReadBack] with
  | some (_, r) =>
    let t := t.upd fun s =>
      let s := (s.setWork d none).leaveBuffer d
      if r = .done then s else s.setMapState d .degraded
    match t.st.startedOrder d with
    | some o => mapWriteEnds d o (r = .done) t
    | none => t
  | none => t

/-- SPARING_READ_END (R167): the visit's outcome is handed over (R153), and S4 follows, or the order fails. -/
def sparingReadEnd (d : DriveNo) (t : Turn) : Turn :=
  match t.st.workEnd d [.sparingRead] with
  | some (w, r) =>
    let t := endVisit d w.visitTrack w.visitResult false (t.upd fun s => s.setWork d none)
    if r = .done then enterStep d .s4 t else failOrder d .idMismatch t
  | none => t

/-- SPARING_WRITE_VERIFY_END (R168): S5 follows, or the alternate has failed. -/
def sparingWriteVerifyEnd (d : DriveNo) (t : Turn) : Turn :=
  match t.st.workEnd d [.sparingWrite, .sparingVerify] with
  | some (_, r) =>
    let t := t.upd fun s => s.setWork d none
    if r = .done then enterStep d .s5 t else alternateFailed d t
  | none => t

/-- The original-unmarked item after S5 (R169). -/
def originalAfter (old : Option Nat) (n : Nat) (r : WorkResult) : Option Nat :=
  match r with
  | .failed => some n
  | .done => if old = some n then none else old

/-- SPARING_MARK_END (R169): the original-unmarked item, then S6. -/
def sparingMarkEnd (d : DriveNo) (t : Turn) : Turn :=
  match t.st.workEnd d [.sparingMark] with
  | some (w, r) =>
    enterS6 d (t.upd fun s => (s.setWork d none).onMap d fun m =>
      { m with originalUnmarked := originalAfter m.originalUnmarked (trackNumber w.track) r })
  | none => t

/-- The end of a drive's work, whichever it is, if it is due. -/
def anyWorkEnd (d : DriveNo) (t : Turn) : Turn :=
  sparingMarkEnd d (sparingWriteVerifyEnd d (sparingReadEnd d (mapWriteEnd d (mapLoadEnd d t))))

end Sys2Proof.Machine
end

