-- ==== Sys2Proof/Machine/Due.lean ====
section
/-! DEFINITION. What is due at the connected context before anything else may happen to it: a stall of image service, a
LINK-TIMEOUT, an exchange-out, the end of a drive's work; and a recording that is cut off. -/

namespace Sys2Proof.Machine

/-- The connected context is the image service context (R137). -/
def Active.isImage (a : Active) : Bool :=
  match a.conn with
  | .host _ i => i = imageSlot
  | .work _ => false

/-- One more pacing loss (R131): revolutions lost and the pacing count. -/
def State.losePacing (s : State) : State :=
  (s.onPackage Package.loseRevolution).onDataPath fun p =>
    { p with pacing := min (p.pacing + 1) 16, finishedSinceLoss := false }

/-- An image service stall is due (R138): 96 marks connected with no block finished, whether or not a reset has taken the
request away meanwhile. -/
def State.stallDue (s : State) : Bool :=
  match s.active with
  | some a => a.isImage && decide (96 ≤ s.dataPath.sinceFinish)
  | none => false

/-- IMAGE_SERVICE_STALL (R138). -/
def imageStall (t : Turn) : Turn :=
  if t.st.stallDue then t.upd fun s => s.losePacing.onDataPath fun p => { p with sinceFinish := 0 } else t

/-- The connected context has reached its sixteenth consecutive pacing loss (R131). -/
def State.timeoutDue (s : State) : Bool := s.active.isSome && decide (16 ≤ s.dataPath.pacing)

/-- LINK_TIMEOUT (R131): the operation ends CHECK LINK-TIMEOUT, or is abandoned when a reset has taken it away. -/
def linkTimedOut (t : Turn) : Turn :=
  if t.st.timeoutDue then
    if t.st.active.any Active.abandoned then abandonConnected t
    else
      completeConnected .condition
        (t.upd fun s => s.onPackage fun p => { p with conditions := addCondition .linkTimeout p.conditions })
  else t

/-- EXCHANGE_OUT (R105), when it is due and no LINK-TIMEOUT comes before it. -/
def exchangeOutNow (t : Turn) : Turn := if t.st.timeoutDue then t else takeExchangeOut t

/-- What is due at the context of drive `d` is taken before an event of the drive (assumption 2). -/
def takeDue (d : DriveNo) (t : Turn) : Turn :=
  let t := if t.st.active.any (fun a => a.drive = d) then exchangeOutNow (linkTimedOut (imageStall t)) else t
  anyWorkEnd d t

/-- The kinds of work that record data. -/
def WorkKind.records : WorkKind → Bool
  | .mapWrite => true
  | .sparingWrite => true
  | .sparingMark => true
  | .mapLoad => false
  | .mapReadBack => false
  | .sparingRead => false
  | .sparingVerify => false

/-- The connected context is one that records (R16): a host write in its write pass, or recording work. -/
def Active.writes (a : Active) : Bool :=
  match a.conn with
  | .host p i => i ≠ imageSlot && p.kind = .writeBlocks && !p.verify
  | .work w => w.kind.records

/-- A recording in progress is cut off: what it leaves on the disk is free (assumption 6). -/
def State.cutRecording (s : State) : State :=
  match s.active with
  | some a =>
    match a.diskPhysical with
    | some t =>
      if a.blockMarks.isSome && !a.fieldFailed && a.writes then
        s.disturb a.drive t a.diskBlock a.rewrite.isSome
      else s
    | none => s
  | none => s

end Sys2Proof.Machine
end

