-- ==== Sys2Proof/Machine/Fields.lean ====
section
/-! DEFINITION. What an identity field decides (R2, R37, R143–R145). -/

namespace Sys2Proof.Machine

/-- What the identity field of a block decides. `mismatch` tells whether only the block number differs; `proceed`
carries the field to be recorded anew with the data. -/
inductive FieldVerdict where
  | failed
  | mismatch (blockOnly : Bool)
  | lost
  | adopt (alternate : Nat)
  | linkMismatch
  | proceed (rewrite : Option IdField)
deriving DecidableEq, Repr

/-- The identity check and the address (R2), checks 1 and 2 of R143; none when they decide nothing. -/
def addressVerdict (t : Track) (block : Nat) (r : FieldRead) : Option FieldVerdict :=
  if !fieldGood r then some .failed
  else if r.field.cyl ≠ t.cyl || r.field.head ≠ t.head then some (.mismatch false)
  else if r.field.block ≠ block then some (.mismatch true)
  else none

/-- The alternate index of a consistent link (R37). -/
def DriveMap.consistentLink (m : DriveMap) (link : Option Track) : Option Nat :=
  match link with
  | some l =>
    match alternateIndex l with
    | some a => if m.isFree a then some a else none
    | none => none
  | none => none

/-- The block carries its LOST mark, or is taken as carrying it (R3, R144). -/
def DriveMap.lostAt (m : DriveMap) (t : Track) (block : Nat) (f : IdField) : Bool :=
  f.condition = .alternate && (f.lost || m.inDoubt.contains ⟨t, block⟩)

/-- Check 5 of R143 (R145), with the field a write that clears a LOST mark records. -/
def linkVerdict (throughAlt : Bool) (logical : Track) (f : IdField) (lost : Bool) : FieldVerdict :=
  if throughAlt then
    if f.condition = .alternate && f.link = some logical then
      .proceed (if lost then some { f with lost := false } else none)
    else .linkMismatch
  else if f.condition = .alternate then .linkMismatch
  else .proceed none

/-- Checks 3 to 5 of R143, for a track reached as `throughAlt` says for `logical`. -/
def trackVerdict (m : DriveMap) (writing throughAlt : Bool) (logical physical : Track) (block : Nat) (f : IdField) :
    FieldVerdict :=
  let lost := m.lostAt physical block f
  if lost && !writing then .lost
  else if !throughAlt && f.condition = .defective then
    match m.consistentLink f.link with
    | some a => .adopt a
    | none => .linkMismatch
  else linkVerdict throughAlt logical f lost

/-- The checks of a host request's block (R143). -/
def hostVerdict (m : DriveMap) (writing : Bool) (a : Active) (physical : Track) (r : FieldRead) : FieldVerdict :=
  match addressVerdict physical a.diskBlock r with
  | some v => v
  | none => trackVerdict m writing a.diskThroughAlt a.diskLogical physical a.diskBlock r.field

/-- The field a sparing step records: with the LOST mark where the image block is UNREADABLE (R168, R169). -/
def sparedField (t : Track) (block : Nat) (c : TrackCondition) (link : Track) (tag : ImageTag) : IdField :=
  ⟨t.cyl, t.head, block, c, some link, decide (tag = .unreadable)⟩

/-- The image tag of a block. -/
def State.imageTag (s : State) (block : Nat) : ImageTag := s.image.tags[block]?.getD .empty

/-- The content of Image Area slot 24 + `block`. -/
def State.imageContent (s : State) (block : Nat) : Content := s.image.slots[block]?.getD (.bytes 0#4096)

/-- The field the connected work records anew with its block, if it records one (R168, R169). -/
def State.workField (s : State) (d : DriveNo) (w : Work) (block : Nat) : Option IdField :=
  match s.startedOrder d with
  | some o =>
    match o.track, o.newAlt, w.kind with
    | some n, some _, .sparingWrite =>
      some (sparedField w.track block .alternate (trackOfNumber n) (s.imageTag block))
    | some _, some a, .sparingMark =>
      some (sparedField w.track block .defective (alternateTrack a) (s.imageTag block))
    | _, _, _ => none
  | none => none

/-- The content the connected work records (R34, R168, R169). -/
def State.workContent (s : State) (w : Work) (block : Nat) : Content :=
  if w.kind = .mapWrite then s.mapBuffer.blocks[block]?.getD (.bytes 0#4096) else s.imageContent block

end Sys2Proof.Machine
end

