-- ==== Sys2Proof/Machine/HostBlocks.lean ====
section
/-! DEFINITION. The disk and port sides of a connected host request, block by block (chapters 6 to 8). -/

namespace Sys2Proof.Machine

/-! ## The disk side -/

/-- Sets the disk side. -/
def State.setDisk (s : State) (x : DiskSide) : State := s.onDataPath fun p => { p with disk := x }

/-- The context is to leave the path, its disk side halted. -/
def State.leave (s : State) (why : Leaving) : State :=
  (s.onActive fun a => { a with leaving := some why }).setDisk .halted

/-- The ladder has ended: step 0, and the offset back to NONE (R149). -/
def State.endLadder (s : State) (d : DriveNo) : State := (s.onDataPath fun p => { p with step := 0 }).offset d .none

/-- The request block number of the disk side's block (R121). -/
def diskNumber (a : Active) (p : Package) : Nat := p.baseCount - a.diskLeft

/-- The disk side has reached the block of the held retry step: the step comes into force, and OFFSET is issued for it,
whatever the drive's offset (R150). -/
def State.takeHeld (s : State) : State :=
  match s.active with
  | some a =>
    match a.conn with
    | .host p _ =>
      match p.heldStep with
      | some (step, n) =>
        if n = diskNumber a p then
          ((s.onPackage fun p => { p with heldStep := none }).onDataPath fun x => { x with step := step })
            |>.sendOffset a.drive (stepOffset step)
        else s
      | none => s
    | .work _ => s
  | none => s

/-- The disk side goes on to the next head of the cylinder, or halts for a relocation (R134, R135). -/
def State.headSwitch (s : State) (d : DriveNo) (a : Active) : State :=
  let next : Track := ⟨a.diskLogical.cyl, a.diskLogical.head + 1⟩
  let (physical, alt) := Translation.target next (s.translate d next)
  let s := s.onActive fun a =>
    { a with diskLogical := next, diskPhysical := some physical, diskThroughAlt := alt, diskBlock := 0 }
  if physical.cyl = (s.drive d).cylinder then s.headSelect d physical.head else s.leave .relocation

/-- The disk side has passed a block (R104): its disk block advances by one, or after block 23 the disk track moves to the
next head. When block 23 was the last of the pass no track follows (R26, R134), and the disk track and the disk block stay
(DESIGN CHOICE, assumption 43). -/
def State.advanceDisk (s : State) : State :=
  let s := s.onActive fun a => { a with diskLeft := a.diskLeft - 1, blockMarks := none, rewrite := none }
  match s.active with
  | some a =>
    let s := if a.diskLeft = 0 then s.setDisk .halted else s
    let s :=
      if a.diskBlock ≠ 23 then s.onActive fun a => { a with diskBlock := a.diskBlock + 1 }
      else if a.diskLeft = 0 then s
      else s.headSwitch a.drive a
    s.takeHeld
  | none => s

/-! ## Blocks that finish (R104) -/

/-- The package after one of its blocks, on physical track `t`, has finished. A track of the request is counted as
relocated once, by the first block that finishes on its alternate, in whatever pass that is (R104, R179). -/
def Package.finish (a : Active) (t : Track) (p : Package) : Package :=
  let counts := decide (640 ≤ t.cyl) && !p.relocTracks.contains p.logical
  let p :=
    { p with
      count := p.count - 1
      transferred := if p.verify then p.transferred else p.transferred + 1
      conditions := if counts then addCondition .alternateUsed p.conditions else p.conditions
      relocated := if counts then p.relocated + 1 else p.relocated
      relocTracks := if counts then p.relocTracks ++ [p.logical] else p.relocTracks }
  if p.nextBlock < 23 then { p with nextBlock := p.nextBlock + 1 }
  else if p.count = 0 then p
  else
    { p with
      nextBlock := 0
      logical := ⟨p.logical.cyl, p.logical.head + 1⟩
      physical := a.diskPhysical
      throughAlt := a.diskThroughAlt }

/-- The verify pass begins (R132): the package is reloaded, the visit ends (R151), the context is to leave the path. -/
def beginVerify (p : Package) (t : Turn) : Turn :=
  let t := endVisit p.drive p.visitTrack p.visitResult p.flags.sparePermit t
  t.upd fun s =>
    let (physical, alt) := Translation.target p.firstTrack (s.translate p.drive p.firstTrack)
    ((s.onPackage fun p =>
      { p with
        verify := true, count := p.baseCount, nextBlock := p.firstBlock, logical := p.firstTrack
        physical := some physical, throughAlt := alt, retryStep := 0, visitTrack := none, visitResult := none }).leave
      .verifyPass).onActive fun a =>
        { a with
          diskLogical := p.firstTrack, diskPhysical := some physical, diskThroughAlt := alt
          diskBlock := p.firstBlock, diskLeft := p.baseCount }

/-- A block of the connected host context, on physical track `track`, has finished (R104). -/
def finishBlock (track : Track) (t : Turn) : Turn :=
  match t.st.active with
  | some a =>
    let t := t.upd fun s => (s.onPackage (Package.finish a track)).onDataPath fun p =>
      { p with pacing := 0, finishedSinceLoss := true, sinceFinish := 0 }
    match t.st.active with
    | some a =>
      match a.conn with
      | .host p _ =>
        if p.count ≠ 0 then t
        else if p.kind = .writeBlocks && p.flags.verifyWrite && !p.verify then beginVerify p t
        else completeConnected .finished t
      | .work _ => t
    | none => t
  | none => t

/-! ## Conditions that end the operation (R111) -/

/-- Adds condition names to the connected package. -/
def State.addConditions (s : State) (l : List Condition) : State :=
  s.onPackage fun p => { p with conditions := l.foldl (fun c x => addCondition x c) p.conditions }

/-- A condition ends the operation (R111): a read ends when its ring has been carried, a write or a verify pass at
once. The offset returns to NONE (R149). -/
def endByCondition (l : List Condition) (t : Turn) : Turn :=
  match t.st.active with
  | some a =>
    match a.conn with
    | .host p _ =>
      let t := t.upd fun s => (s.addConditions l).offset a.drive .none
      if p.kind = .readBlocks then t.upd fun s => s.leave .ended else completeConnected .condition t
    | .work _ => t
  | none => t

/-- Raises the visit result of the connected package (R152). -/
def State.noteVisit (s : State) (r : VisitResult) : State :=
  s.onPackage fun p => { p with visitResult := some (worseResult p.visitResult r) }

/-! ## Identity mismatch (R15, R110) -/

/-- A field with another block number shows that the angular position is wrong (R2). -/
def State.doubtRotation (s : State) (d : DriveNo) (blockOnly : Bool) : State :=
  if blockOnly then s.onDrive d fun r => { r with rotationKnown := false } else s

/-- A first mismatch on the track: the context leaves the path at once and the drive recalibrates. -/
def State.recoverMismatch (s : State) (d : DriveNo) (track : Track) : State :=
  (s.disconnect.recalibrate d).onDrive d fun r =>
    { r with
      mismatch := some track, boundaryMissed := true
      state := if r.state = .connected then .recalibrating else r.state }

/-- An identity mismatch of the connected host context (R15): the first on the track is recovered, the second ends the
operation. -/
def hostMismatch (a : Active) (track : Track) (blockOnly : Bool) (t : Turn) : Turn :=
  let t := t.upd fun s => s.doubtRotation a.drive blockOnly
  if (t.st.drive a.drive).mismatch = some track then endByCondition [.idMismatch] t
  else t.upd fun s => s.recoverMismatch a.drive track

/-! ## The start of a block (R122, stage 3) -/

/-- A pacing loss (R125, R126, R129, R130). -/
def State.pacingLoss (s : State) (a : Active) (p : Package) : State :=
  let s := s.losePacing.onDataPath fun x => { x with stopped := some (diskNumber a p) }
  if p.flags.holdPath then s.setDisk .waiting else s.leave .pacingLoss

/-- The pacing check of a block (R125, R129); none is made in a verify pass. -/
def paced (a : Active) (p : Package) (dp : DataPath) : Bool :=
  p.verify ||
    (match p.kind with
     | .readBlocks => decide (dp.ring.length < 24)
     | _ =>
       match dp.ring with
       | x :: _ => decide (x.number = diskNumber a p) && decide (x.fill = .full)
       | [] => false)

/-- The disk side begins a block of the visit track, or of another track, which ends the visit in progress (R151). A block
is begun, in this sense, once its pacing check has passed, and before its identity field is checked (DESIGN CHOICE,
assumption 42). -/
def visitBlock (track : Track) (p : Package) (t : Turn) : Turn :=
  if p.visitTrack = some track then t
  else
    (endVisit p.drive p.visitTrack p.visitResult p.flags.sparePermit t).upd fun s =>
      s.onPackage fun p => { p with visitTrack := some track, visitResult := none }

/-- A ring slot for the disk side's block of a read (R121, R123). -/
def readSlot (a : Active) (p : Package) (track : Track) (fill : FillState) (status : CheckStatus) : RingSlot :=
  ⟨p.request, diskNumber a p, track, a.diskBlock, fill, status, none⟩

/-- Appends a slot to the ring. -/
def State.ringPush (s : State) (x : RingSlot) : State := s.onDataPath fun p => { p with ring := p.ring ++ [x] }

/-- Changes the slot at the head of the ring. -/
def State.ringHead (s : State) (f : RingSlot → RingSlot) : State :=
  s.onDataPath fun p => { p with ring := match p.ring with | x :: l => f x :: l | [] => [] }

/-- The block is in progress. -/
def State.beginBlock (s : State) (failed : Bool) (rewrite : Option IdField) : State :=
  s.onActive fun a => { a with blockMarks := some 0, fieldFailed := failed, rewrite := rewrite }

/-- A block is taken: into a new slot on a read, from the head slot on a write. A write block whose identity check has
failed stays FULL (R128). The check status of a read's slot is GOOD while it is FILLING and there is no result of reading
yet: R121 gives none (DESIGN CHOICE, assumption 41). -/
def State.takeBlock (s : State) (a : Active) (p : Package) (track : Track) (failed : Bool) (rewrite : Option IdField) :
    State :=
  let s := s.beginBlock failed rewrite
  if p.verify then s
  else if p.kind = .readBlocks then s.ringPush (readSlot a p track .filling .good)
  else if failed then s
  else s.ringHead fun x => { x with fill := .draining }

/-- The translation of the track in progress becomes the adopted alternate (R26, R37). A package whose track in progress
is an earlier one takes it when it comes to the adopted track (R104). -/
def Package.adopt (a : Active) (alternate : Nat) (p : Package) : Package :=
  if p.logical = a.diskLogical then { p with physical := some (alternateTrack alternate), throughAlt := true } else p

/-- Adopts a DEFECTIVE link (R37): the table gains the entry and the context is to relocate. -/
def adopt (a : Active) (alternate : Nat) (t : Turn) : Turn :=
  let d := a.drive
  let t := t.upd fun s => s.onMap d fun m =>
    { m with table := tableInsert ⟨trackNumber a.diskLogical, alternate, .committed, none⟩ m.table }
  let t := if (t.st.drive d).mapState = .loaded then placeMapWrite d t else t
  t.upd fun s => ((s.onPackage (Package.adopt a alternate)).onActive fun a =>
    { a with diskPhysical := some (alternateTrack alternate), diskThroughAlt := true }).leave .relocation

/-- What the identity field of a host block has decided comes about (R143). -/
def hostField (a : Active) (p : Package) (track : Track) (v : FieldVerdict) (t : Turn) : Turn :=
  match v with
  | .failed => t.upd fun s => s.takeBlock a p track true none
  | .mismatch blockOnly => hostMismatch a track blockOnly t
  | .lost =>
    let t := if p.verify || p.kind ≠ .readBlocks then t
      else t.upd fun s => s.ringPush (readSlot a p track .full .lost)
    endByCondition [.dataCheck, .lostBlock] t
  | .adopt alternate => adopt a alternate t
  | .linkMismatch => endByCondition [.linkMismatch] t
  | .proceed rewrite => t.upd fun s => s.takeBlock a p track false rewrite

/-- A retry wait of a context that has stayed connected is counted as the block's start comes round (R108). -/
def State.countRetryWait (s : State) (a : Active) : State :=
  if a.retryDue then (s.onPackage Package.loseRevolution).onActive fun a => { a with retryDue := false } else s

/-- A block that the connected host context is to take starts (R122, stage 3). With this mark the grant period of a
HOLD-PATH context ends, also when the pacing check then fails: that the block has started by then is DESIGN CHOICE
(R99, R103; assumption 36). -/
def startHostBlock (a : Active) (p : Package) (input : MarkInput) (t : Turn) : Turn :=
  match a.diskPhysical with
  | none => t
  | some track =>
    let t := t.upd fun s => (s.countRetryWait a).onActive fun a => { a with grantPeriod := false }
    if paced a p t.st.dataPath then
      let t := t.upd fun s => s.onDataPath fun x => { x with disk := .active, stopped := none }
      let t := visitBlock track p t
      let r := input.field.getD (t.st.recorded a.drive track a.diskBlock).field
      let writing := p.kind = .writeBlocks && !p.verify
      hostField a p track (hostVerdict (t.st.map a.drive) writing a track r) t
    else t.upd fun s => s.pacingLoss a p

/-- A draining read whose stopped block comes round with no block finished since the last loss loses its pacing once
more (R125). -/
def State.drainLoss (s : State) (a : Active) (p : Package) : State :=
  if a.leaving = some .pacingLoss && p.kind = .readBlocks && !s.dataPath.finishedSinceLoss then s.losePacing else s

/-! ## The end of a block (R122, stage 1) -/

/-- The last slot of the ring leaves it. -/
def State.ringDropTail (s : State) : State := s.onDataPath fun p => { p with ring := p.ring.dropLast }

/-- Changes the last slot of the ring. -/
def State.ringTail (s : State) (f : RingSlot → RingSlot) : State :=
  s.onDataPath fun p => { p with ring := p.ring.dropLast ++ (p.ring.getLast?.map f).toList }

/-- The ladder advances (R148), the disk side stops at the block and the retry wait begins (R108, R123). -/
def State.advanceLadder (s : State) (a : Active) (p : Package) : State :=
  let s := (s.onPackage fun p => { p with retries := saturate (p.retries + 1) }).onDataPath fun x =>
    { x with step := x.step + 1 }
  let s := (s.onActive fun a => { a with blockMarks := none, rewrite := none }).onDataPath fun x =>
    { x with stopped := some (diskNumber a p) }
  if p.flags.holdPath then
    ((s.setDisk .waiting).onActive fun a => { a with retryDue := true }).offset a.drive (stepOffset s.dataPath.step)
  else s.leave .retryWait

/-- A block has failed on this pass (R123, R128, R133, R146–R149). -/
def failHostBlock (a : Active) (p : Package) (t : Turn) : Turn :=
  if t.st.dataPath.step < lastStep p.flags then
    t.upd fun s =>
      let s := if p.kind = .readBlocks then s.ringDropTail else s
      s.advanceLadder a p
  else
    let t := t.upd fun s => (s.noteVisit .failed).onActive fun a => { a with blockMarks := none, rewrite := none }
    if p.verify then endByCondition [.verifyFailed] t
    else if p.kind = .readBlocks then
      endByCondition [.dataCheck]
        (t.upd fun s => s.ringTail fun x => { x with fill := .full, status := .dataCheck, content := none })
    else endByCondition [.dataCheck] t

/-- The result of a block that has passed at a step, and RECOVERED with it (R149). -/
def State.notePass (s : State) (step : Nat) : State :=
  if step = 0 then s.noteVisit .clean else (s.noteVisit .retried).addConditions [.recovered]

/-- Records the block of a host write (R3, R128, R140). The block is in doubt no longer. -/
def State.recordHost (s : State) (a : Active) (track : Track) (content : Content) : State :=
  let old := s.recorded a.drive track a.diskBlock
  let field := match a.rewrite with
    | some f => ⟨f, .generated⟩
    | none => old.field
  (s.record a.drive track a.diskBlock ⟨field, ⟨content, recordedCheck field.field⟩⟩).onMap a.drive fun m =>
    { m with inDoubt := m.inDoubt.filter fun b => b ≠ ⟨track, a.diskBlock⟩ }

/-- The content of the slot at the head of the ring. -/
def State.headContent (s : State) : Content := (s.dataPath.ring.head?.bind RingSlot.content).getD (.bytes 0#4096)

/-- The slot at the head of the ring becomes EMPTY. -/
def State.ringDropHead (s : State) : State := s.onDataPath fun p => { p with ring := p.ring.tail }

/-- A block has passed on this pass (R123, R128, R133). -/
def passHostBlock (a : Active) (p : Package) (track : Track) (content : Content) (t : Turn) : Turn :=
  let step := t.st.dataPath.step
  let t := t.upd fun s => (s.notePass step).endLadder a.drive
  if p.verify then finishBlock track (t.upd State.advanceDisk)
  else if p.kind = .readBlocks then
    t.upd fun s => (s.ringTail fun x =>
      { x with
        fill := .full, status := if step = 0 then .good else .retriedGood, content := some content }).advanceDisk
  else
    finishBlock track (t.upd fun s => ((s.recordHost a track s.headContent).ringDropHead).advanceDisk)

/-- A disk block of the connected host context ends (R122, stage 1). -/
def endHostBlock (a : Active) (p : Package) (input : MarkInput) (t : Turn) : Turn :=
  match a.diskPhysical with
  | none => t
  | some track =>
    let data := input.data.getD (t.st.recorded a.drive track a.diskBlock).data
    let writing := p.kind = .writeBlocks && !p.verify
    if a.fieldFailed || (!writing && !dataGood data) then failHostBlock a p t
    else passHostBlock a p track data.content t

/-- The block in progress of an abandoned context ends (R112): a write block is recorded, and the context leaves. -/
def endAbandonedBlock (a : Active) (p : Package) (t : Turn) : Turn :=
  let writing := p.kind = .writeBlocks && !p.verify
  let t := match a.diskPhysical with
    | some track => if writing && !a.fieldFailed then t.upd fun s => s.recordHost a track s.headContent else t
    | none => t
  abandonConnected t

/-! ## The port side (R124, R127, R137) -/

/-- The port side is IDLE again. -/
def State.portIdle (s : State) : State :=
  s.onDataPath fun p => { p with port := .idle, portBlock := none, portMarks := 0 }

/-- The port side begins a block. -/
def State.portCarry (s : State) (number : Nat) : State :=
  s.onDataPath fun p => { p with port := .carrying, portBlock := some number, portMarks := 0 }

/-- The number of the next block a write is to ask for (R127). -/
def nextAsked (p : Package) (dp : DataPath) : Nat := (p.baseCount - p.count) + dp.ring.length

/-- A block that the port has brought from the host has arrived (R127). The data connection ends with the last block of
the request (R66). -/
def State.arrive (s : State) (p : Package) (data : BlockData) : State :=
  let s := (s.ringTail fun x => { x with fill := .full, content := some (.bytes data) }).portIdle
  if nextAsked p s.dataPath < p.baseCount then s else s.endConnection p.request.port

/-- The port has carried the block at the head of the ring to the host (R124). -/
def State.carryHead (s : State) (p : Package) : State :=
  match s.dataPath.ring with
  | x :: _ => (s.emit (.blockToHost p.request.port x.number x.status x.content)).ringDropHead.portIdle
  | [] => s

/-- A block that the port has carried to the host is finished (R124). It is listed as sent now, as its port block ends
(assumption 18). -/
def carried (p : Package) (t : Turn) : Turn :=
  match t.st.dataPath.ring with
  | x :: _ => finishBlock x.track (t.upd fun s => s.carryHead p)
  | [] => t

/-- A port block of an abandoned drive-slot context ends before the disk block in progress does (R19, R82, R112): it is
still carried while the link is in DATA. -/
def State.abandonedPort (s : State) (p : Package) (data : BlockData) : State :=
  if (s.port p.request.port).link = .data then
    if p.kind = .readBlocks then s.carryHead p else s.arrive p data
  else s

/-- A block carried from the Image Area is finished (R137); it is listed as sent now, as its port block ends (assumption
18). -/
def imageCarried (p : Package) (t : Turn) : Turn :=
  finishBlock p.logical (t.upd fun s =>
    (s.emit (.blockToHost p.request.port (p.baseCount - p.count) .good (some (s.imageContent p.nextBlock)))).portIdle)

/-- The port block of an abandoned image service context ends (R112): it is still carried while the link is in DATA. -/
def imageAbandoned (p : Package) (t : Turn) : Turn :=
  let t := if (t.st.port p.request.port).link = .data then
      t.upd fun s => s.emit
        (.blockToHost p.request.port (p.baseCount - p.count) .good (some (s.imageContent p.nextBlock)))
    else t
  abandonConnected t

/-- A port block ends at this mark, if one does (R122, stage 2). -/
def endPortBlock (a : Active) (p : Package) (input : MarkInput) (t : Turn) : Turn :=
  if t.st.dataPath.port = .carrying then
    let t := t.upd fun s => s.onDataPath fun x => { x with portMarks := x.portMarks + 1 }
    if blockTime (t.st.port p.request.port).linkClass ≤ t.st.dataPath.portMarks && input.hostReady then
      if a.isImage then (if a.abandoned then imageAbandoned p t else imageCarried p t)
      else if a.abandoned then t.upd fun s => s.abandonedPort p input.hostData
      else if p.kind = .readBlocks then carried p t
      else t.upd fun s => s.arrive p input.hostData
    else t
  else t

/-- The tag of a write block the port asks for: its number and disk address (R127). -/
def askedSlot (s : State) (p : Package) (number : Nat) : RingSlot :=
  let place := p.firstTrack.head * 24 + p.firstBlock + number
  let logical : Track := ⟨p.firstTrack.cyl, place / 24⟩
  ⟨p.request, number, (Translation.target logical (s.translate p.drive logical)).1, place % 24, .filling, .good, none⟩

/-- A write's port asks for its next block, if there is one and a slot for it (R127). -/
def State.askNext (s : State) (a : Active) (p : Package) : State :=
  let n := nextAsked p s.dataPath
  if a.leaving.isNone && !p.verify && decide (s.dataPath.ring.length < 24) && decide (n < p.baseCount) then
    ((s.ringPush (askedSlot s p n)).emit (.askBlock p.request.port n)).portCarry n
  else s

/-- A read's port begins the block at the head of the ring, or presents one without data, which ends the request
(R124). -/
def drainNext (p : Package) (t : Turn) : Turn :=
  match t.st.dataPath.ring with
  | x :: _ =>
    if x.fill = .full then
      if x.status = .good || x.status = .retriedGood then
        t.upd fun s => (s.ringHead fun x => { x with fill := .draining }).portCarry x.number
      else
        completeConnected .condition
          (t.upd fun s => (s.emit (.blockToHost p.request.port x.number x.status none)).ringDropHead)
    else t
  | [] => t

/-- The image service port begins its next block, or presents an unreadable one, which ends the request (R137). The first
block to start ends the grant period of a HOLD-PATH context (R99, R103). -/
def imageNext (p : Package) (t : Turn) : Turn :=
  let n := p.baseCount - p.count
  if t.st.imageTag p.nextBlock = .unreadable then
    completeConnected .condition
      (t.upd fun s => (s.emit (.blockToHost p.request.port n .lost none)).addConditions [.dataCheck, .lostBlock])
  else t.upd fun s => (s.onActive fun a => { a with grantPeriod := false }).portCarry n

/-- The port begins its next block, if it is IDLE and has one (R122, stage 4). -/
def beginPortBlock (a : Active) (p : Package) (t : Turn) : Turn :=
  if t.st.dataPath.port = .idle then
    if a.isImage then imageNext p t
    else if p.kind = .readBlocks then drainNext p t
    else t.upd fun s => s.askNext a p
  else t

end Sys2Proof.Machine
end

