-- ==== Sys2Proof/Machine/WorkBlocks.lean ====
section
/-! DEFINITION. The blocks of a connected work context: map loads, map writes and the disk steps of a sparing operation
(R31, R34, R167–R169). -/

namespace Sys2Proof.Machine

/-- The connected work context goes back to the Spare Map Unit, changed by `f`; the offset returns to NONE and the path
frees at the drive's next mark (R105, R106, R149). -/
def State.returnWork (s : State) (d : DriveNo) (f : Work → Work) : State :=
  match s.active with
  | some a =>
    match a.conn with
    | .work w => ((s.setWork d (some (f w))).offset d .none).dropActive d false
    | .host _ _ => s
  | none => s

/-- The work of the connected work context has ended with a result (R106). -/
def State.endWork (s : State) (d : DriveNo) (r : WorkResult) : State := s.returnWork d fun w => { w with result := some r }

/-- The second pass of a map write or of S4 follows (R34, R168): its context leaves the path and arms block 0. -/
def State.secondPass (s : State) (d : DriveNo) (kind : WorkKind) (left : Nat) : State :=
  (s.returnWork d fun w => { w with kind := kind, nextBlock := 0, left := left, step := 0 }).armWork d

/-- A pass of the work has taken its last block. -/
def State.workPassEnds (s : State) (d : DriveNo) (w : Work) : State :=
  match w.kind with
  | .mapWrite => s.secondPass d .mapReadBack 4
  | .sparingWrite => s.secondPass d .sparingVerify 24
  | .mapLoad => s.endWork d .done
  | .mapReadBack => s.endWork d .done
  | .sparingRead => s.endWork d .done
  | .sparingVerify => s.endWork d .done
  | .sparingMark => s.endWork d .done

/-- A block of the work is finished: the next block follows in the same connection, or the pass ends. -/
def State.workBlockDone (s : State) (d : DriveNo) (w : Work) : State :=
  let s := (s.onWork fun w => { w with nextBlock := w.nextBlock + 1, left := w.left - 1, step := 0 }).endLadder d
  if w.left ≤ 1 then s.workPassEnds d w
  else s.onActive fun a =>
    { a with diskBlock := a.diskBlock + 1, diskLeft := a.diskLeft - 1, blockMarks := none, rewrite := none }

/-- Sets an image tag and its slot (R167). -/
def State.setImage (s : State) (block : Nat) (tag : ImageTag) (content : Content) : State :=
  if h : block < 24 then
    { s with image :=
      { s.image with tags := s.image.tags.set block tag, slots := s.image.slots.set block content } }
  else s

/-- Tags an image block UNREADABLE (R167). What its slot then holds is free (R140; assumption 37). -/
def State.setUnreadable (s : State) (block : Nat) : State :=
  { s.setImage block .unreadable (.bytes (Config.unreadableSlot s.freeIndex)) with freeIndex := s.freeIndex + 1 }

/-- Raises the visit result of a sparing read (R151, R152). -/
def State.noteWorkVisit (s : State) (r : VisitResult) : State :=
  s.onWork fun w => { w with visitResult := some (worseResult w.visitResult r) }

/-- What a block that has passed leaves behind: map blocks in the map buffer, image blocks in the Image Area. -/
def State.keepWork (s : State) (w : Work) (block step : Nat) (c : Content) : State :=
  match w.kind with
  | .mapLoad => { s with mapBuffer := { s.mapBuffer with blocks := s.mapBuffer.blocks ++ [c] } }
  | .sparingRead =>
    (s.setImage block .read c).noteWorkVisit (if step = 0 then .clean else .retried)
  | _ => s

/-- Records the block of a recording work (R34, R140, R168, R169). S4 takes the block out of the marks in doubt. -/
def State.recordWork (s : State) (d : DriveNo) (w : Work) (block : Nat) : State :=
  let old := s.recorded d w.track block
  let field := match s.workField d w block with
    | some f => ⟨f, .generated⟩
    | none => old.field
  let s' := s.record d w.track block ⟨field, ⟨s.workContent w block, recordedCheck field.field⟩⟩
  if w.kind = .sparingWrite then
    s'.onMap d fun m => { m with inDoubt := m.inDoubt.filter fun b => b ≠ ⟨w.track, block⟩ }
  else s'

/-- A block of the work has failed on this pass (R148, R149, R167). -/
def State.failWorkBlock (s : State) (d : DriveNo) (w : Work) (block : Nat) : State :=
  if s.dataPath.step < 7 then
    ((s.onDataPath fun x => { x with step := x.step + 1, stopped := some block }).onActive fun a =>
      { a with blockMarks := none, rewrite := none }).leave .retryWait
  else if w.kind = .sparingRead then
    ((s.setUnreadable block).noteWorkVisit .failed).workBlockDone d w
  else s.endWork d .failed

/-- The block check of the work's block is examined (R142): not in a recording pass, nor in the verify of S4 for a block
tagged UNREADABLE (R168). -/
def State.checksData (s : State) (w : Work) (block : Nat) : Bool :=
  !w.kind.records && !(w.kind = .sparingVerify && s.imageTag block = .unreadable)

/-- A disk block of the connected work context ends. -/
def State.endWorkBlock (s : State) (a : Active) (w : Work) (input : MarkInput) : State :=
  let d := a.drive
  let data := input.data.getD (s.recorded d w.track a.diskBlock).data
  if a.fieldFailed || (s.checksData w a.diskBlock && !dataGood data) then s.failWorkBlock d w a.diskBlock
  else if w.kind.records then (s.recordWork d w a.diskBlock).workBlockDone d w
  else (s.keepWork w a.diskBlock s.dataPath.step data.content).workBlockDone d w

/-- An identity mismatch of the connected work context (R15): the second on the track fails the work. -/
def State.workMismatch (s : State) (d : DriveNo) (track : Track) (blockOnly : Bool) : State :=
  let s := s.doubtRotation d blockOnly
  if (s.drive d).mismatch = some track then s.endWork d .failed else s.recoverMismatch d track

/-- The sparing read begins its visit with its first block (R151). -/
def State.visitWork (s : State) (w : Work) : State :=
  if w.kind = .sparingRead then s.onWork fun w => { w with visitTrack := some w.track } else s

/-- A block that the connected work context is to take starts: only its identity check and address are examined
(R142). -/
def State.startWorkBlock (s : State) (a : Active) (w : Work) (input : MarkInput) : State :=
  let d := a.drive
  let s := (s.onActive fun a => { a with grantPeriod := false }).visitWork w
  match addressVerdict w.track a.diskBlock (input.field.getD (s.recorded d w.track a.diskBlock).field) with
  | none => s.beginBlock false (s.workField d w a.diskBlock)
  | some (.mismatch blockOnly) => s.workMismatch d w.track blockOnly
  | some _ => s.beginBlock true none

end Sys2Proof.Machine
end

