-- ==== Sys2Proof/Machine/DataPath.lean ====
section
/-! DEFINITION. What a sector or index mark does: exchange-in, the stages of the Data Path, the windows and the freeing
of the path (R1, R58, R103, R105, R122). -/

namespace Sys2Proof.Machine

/-! ## The stages of one mark (R122) -/

/-- Stage 1: a disk block that ends at this mark ends. -/
def stageDiskEnd (input : MarkInput) (t : Turn) : Turn :=
  match t.st.active with
  | some a =>
    match a.blockMarks with
    | some k =>
      if k + 1 < 4 then t.upd fun s => s.onActive fun a => { a with blockMarks := some (k + 1) }
      else
        match a.conn with
        | .host p _ => if a.abandoned then endAbandonedBlock a p t else endHostBlock a p input t
        | .work w => t.upd fun s => s.endWorkBlock a w input
    | none => t
  | none => t

/-- Stage 2: a port block that ends at this mark ends. -/
def stagePortEnd (input : MarkInput) (t : Turn) : Turn :=
  match t.st.active with
  | some a =>
    match a.conn with
    | .host p _ => endPortBlock a p input t
    | .work _ => t
  | none => t

/-- The start of the disk side's next block is at this mark. -/
def State.blockStarts (s : State) (a : Active) : Bool :=
  (s.drive a.drive).rotationKnown && decide ((s.drive a.drive).angle = 4 * a.diskBlock) && a.blockMarks.isNone &&
    decide (0 < a.diskLeft) && !a.abandoned && !a.isImage

/-- Stage 3: a block that the disk side is to take starts at this mark. -/
def stageDiskStart (input : MarkInput) (t : Turn) : Turn :=
  match t.st.active with
  | some a =>
    if t.st.blockStarts a then
      match a.conn with
      | .host p _ =>
        if t.st.dataPath.disk = .halted then t.upd fun s => s.drainLoss a p else startHostBlock a p input t
      | .work w => if t.st.dataPath.disk = .halted then t else t.upd fun s => s.startWorkBlock a w input
    else t
  | none => t

/-- Stage 4: the port begins its next block. -/
def stagePortStart (t : Turn) : Turn :=
  match t.st.active with
  | some a =>
    match a.conn with
    | .host p _ => if a.abandoned || t.st.timeoutDue then t else beginPortBlock a p t
    | .work _ => t
  | none => t

/-- A read that a condition has ended completes when its ring has been carried (R111). -/
def stageEnded (t : Turn) : Turn :=
  match t.st.active with
  | some a =>
    if a.leaving = some .ended && t.st.dataPath.ring.isEmpty && t.st.dataPath.port = .idle then
      completeConnected .condition t
    else t
  | none => t

/-- The data connection of a context that is to leave ends as the last block it carries passes (R66, R124). -/
def State.closeDrained (s : State) : State :=
  match s.active with
  | some a =>
    match a.conn with
    | .host p _ => if s.exchangeOutDue && !s.timeoutDue then s.endConnection p.request.port else s
    | .work _ => s
  | none => s

/-- The drive of an image service context takes no commands: it is OFFLINE or FAULTED (R4). Image service goes on while its
drive is FAULTED (R174); the drive of every other connected context is at work. -/
def State.imageDriveLost (s : State) (a : Active) : Bool :=
  a.isImage && ((s.drive a.drive).state = .offline || (s.drive a.drive).state = .faulted)

/-- The exchange-in period begins (R103): HEAD SELECT where the head differs from that of the physical track in progress,
which image service has none of (R136), and OFFSET for the retry step. That neither is issued at an image service drive
which R4 allows no command is DEDUCED (assumption 44). -/
def State.exchangeIn (s : State) (a : Active) : State :=
  let s := s.onActive fun a => { a with phase := .exchangeIn }
  if s.imageDriveLost a then s
  else
    let s := match a.diskPhysical with
      | some t => if (s.drive a.drive).head = t.head then s else s.headSelect a.drive t.head
      | none => s
    (s.sendOffset a.drive (stepOffset s.dataPath.step)).takeHeld

/-- The exchange-in period ends: grant period becomes no, but for a HOLD-PATH context (R103). -/
def State.becomeReady (s : State) : State :=
  s.onActive fun a =>
    { a with
      phase := .ready
      grantPeriod := match a.conn with
        | .host p _ => p.flags.holdPath
        | .work _ => false }

/-- The four stages, and what they leave to be done. -/
def stages (input : MarkInput) (t : Turn) : Turn :=
  let t := stagePortEnd input (stageDiskEnd input t)
  let t := stageEnded (stagePortStart (stageDiskStart input t))
  t.upd State.closeDrained

/-- A mark of drive `d` at the Data Path. -/
def dataPathMark (d : DriveNo) (input : MarkInput) (t : Turn) : Turn :=
  match t.st.active with
  | some a =>
    if a.drive = d then
      let t := t.upd fun s => s.onDataPath fun p => { p with sinceFinish := p.sinceFinish + 1 }
      match a.phase with
      | .granted => t.upd fun s => s.exchangeIn a
      | .exchangeIn => stages input (t.upd State.becomeReady)
      | .ready => stages input t
    else t
  | none => t

/-! ## The mark itself -/

/-- The data path becomes free at this mark, if it waited for it (R105, R106). -/
def State.freePath (s : State) (d : DriveNo) : State :=
  if s.arbiter.freeAt = some d then { s with arbiter := { s.arbiter with holder := none, freeAt := none } } else s

/-- What follows the new angular position: the path frees, a window expires or opens, the Data Path takes the mark. -/
def afterMark (d : DriveNo) (input : MarkInput) (t : Turn) : Turn :=
  dataPathMark d input (t.upd fun s => ((s.freePath d).expireWindow d).openAtMark d)

/-- A sector mark (R1). -/
def sectorMarked (d : DriveNo) (input : MarkInput) (t : Turn) : Turn :=
  if (t.st.drive d).installed then
    let t := takeDue d t
    afterMark d input (t.upd fun s => s.onDrive d fun r => { r with angle := (r.angle + 1) % 96 })
  else t

/-- A deferred dispatch choice is made at the index mark (R43). -/
def offerDeferred (d : DriveNo) (t : Turn) : Turn :=
  if (t.st.drive d).deferred then
    (t.upd fun s => s.onDrive d fun r => { r with deferred := false }).push (.offer d)
  else t

/-- An index mark (R1). It stands at sector position 0: when that position's sector mark has been taken already, and
rotation is known, it changes nothing more (assumption 3). -/
def indexMarked (d : DriveNo) (input : MarkInput) (t : Turn) : Turn :=
  let r := t.st.drive d
  if r.installed then
    if r.angle = 0 && r.rotationKnown then t
    else
      let t := takeDue d t
      let t := t.upd fun s => s.onDrive d fun r => { r with angle := 0, rotationKnown := true }
      offerDeferred d (afterMark d input t)
  else t

end Sys2Proof.Machine
end

