-- ==== Sys2Proof/Machine/Drives.lean ====
section
/-! DEFINITION. What Positioner Control does at the events of the drive bus and of the seek timers (1.4). -/

namespace Sys2Proof.Machine

/-! ## Entries marked NOT-READY (R13, R17, R163) -/

/-- The entry is marked when its drive is no longer ready (R13, R17, R162). -/
def State.losesDrive (s : State) (d : DriveNo) (e : Entry) : Bool :=
  e.request.drive = d && e.mark.isNone && e.status ≠ .dispatched && !s.hasResult e.ref

/-- Marks every waiting entry of drive `d` NOT-READY; SPARE TRACK entries lose their order (R163), and the entries of
every port are looked at for pass-through (R79). The orders that are removed with them go in Request Queue order (DESIGN
CHOICE, assumption 35). -/
def markNotReady (d : DriveNo) (t : Turn) : Turn :=
  let lost := t.st.queue.filter (t.st.losesDrive d)
  let t := t.upd fun s =>
    { s with
      queue := s.queue.map fun e =>
        if s.losesDrive d e then { e with mark := some .notReady, status := .queued } else e }
  let t := t.each (lost.filter fun e => e.kind = .spareTrack) fun e => detachEntry e.ref
  t.each allPorts fun p t => t.push (.passThrough p d)

/-! ## Losing the arm (R11, R13) -/

/-- The work in hand of the drive has been taken away by a reset (R19, R20). -/
def State.workTaken (s : State) (d : DriveNo) : Bool := (s.drive d).orphaned || s.resetting

/-- The drive's dispatched request ends for a cause that gives the drive its state (R13, R17): with its record, or with
none when a reset has taken it away. -/
def endDispatched (d : DriveNo) (e : Ending) (t : Turn) : Turn :=
  let t :=
    match t.st.slot (driveSlot d) with
    | some p =>
      if t.st.workTaken d then t.upd fun s => s.setSlot (driveSlot d) none
      else completeRequest (driveSlot d) p p.physical e t
    | none => t
  t.upd fun s => s.onDrive d fun r => { r with dispatched := none, orphaned := false, boundaryMissed := false }

/-- The drive becomes FAULTED (R13). -/
def becomeFaulted (d : DriveNo) (t : Turn) : Turn :=
  let state := (t.st.drive d).state
  let t := t.upd fun s => (s.disarm d).onDrive d fun r =>
    { r with state := .faulted, timer := .stopped, target := none, offset := .none }
  let t := endDispatched d .faulted t
  let t := if state = .loadingMap then t.upd fun s => s.setMapState d .none else t
  markNotReady d (orderLost d t)

/-- A positioning failure of the work in hand (R11). With recalibration count 1 the drive becomes FAULTED also when a reset
has taken the work away, where R19 and R20 say that one recalibration follows (DESIGN CHOICE, assumption 45). -/
def positionFailure (d : DriveNo) (t : Turn) : Turn :=
  let r := t.st.drive d
  if r.recalCount = 0 then
    t.upd fun s => (s.recalibrate d).onDrive d fun r =>
      { r with
        recalCount := 1
        state := if r.state = .loadingMap ∨ r.state = .sparing then r.state else .recalibrating }
  else becomeFaulted d t

/-! ## Answers of the drive (R9, R12) -/

/-- The SEEK of the work in hand is issued again after a recalibration (R12), with HEAD SELECT when the recalibration was
that of an identity mismatch (R15). -/
def State.reseek (s : State) (d : DriveNo) (t : Track) : State :=
  let s := if (s.drive d).boundaryMissed then s.headSelect d t.head else s
  if t.cyl = 0 then s else s.seek d t.cyl

/-- A recalibration has ended at cylinder 0 (R12). -/
def recalibrated (d : DriveNo) (t : Turn) : Turn :=
  let t := t.upd fun s => s.onDrive d fun r => { r with timer := .stopped, cylinder := 0, target := none }
  let r := t.st.drive d
  if r.orphaned then enterIdle d t
  else if r.state = .recalibrating then
    match t.st.slot (driveSlot d) with
    | some p =>
      let track := p.physical.getD p.logical
      t.upd fun s =>
        let s := s.reseek d track
        if track.cyl = 0 then s.orient d else s.onDrive d fun r => { r with state := .seeking }
    | none => enterIdle d t
  else
    let track := t.st.workPlace d
    t.upd fun s =>
      let s := s.reseek d track
      if track.cyl = 0 then s.workArrived d else s

/-- A SEEK has been answered at its target (R9). -/
def arrived (d : DriveNo) (t : Turn) : Turn :=
  let r := t.st.drive d
  if r.orphaned then enterIdle d t
  else if r.state = .seeking then t.upd fun s => s.orient d
  else t.upd fun s => s.workArrived d

/-- Positioned, for a drive with a SEEK unanswered (R9). -/
def seekAnswered (d : DriveNo) (cyl : Nat) (t : Turn) : Turn :=
  let hit := (t.st.drive d).target = some cyl
  let t := t.upd fun s => s.onDrive d fun r => { r with cylinder := cyl }
  if hit then arrived d (t.upd fun s => s.onDrive d fun r => { r with timer := .stopped, target := none })
  else positionFailure d t

/-- Positioned (R9, R12). The running limit tells which command is unanswered, and after a string reset the item by which
a map load awaits its answer (R19); without either it is not taken. -/
def positioned (d : DriveNo) (cyl : Nat) (t : Turn) : Turn :=
  match (t.st.drive d).unanswered with
  | .stopped => t
  | .ms120 => seekAnswered d cyl (t.upd fun s => s.recallLoad d)
  | .ms500 => if cyl = 0 then recalibrated d (t.upd fun s => s.recallLoad d) else t

/-- The 120 ms limit expires (R11). -/
def seekTimedOut (d : DriveNo) (t : Turn) : Turn :=
  if (t.st.drive d).timer = .ms120 then positionFailure d t else t

/-- The 500 ms limit expires (R12). -/
def recalibrationTimedOut (d : DriveNo) (t : Turn) : Turn :=
  if (t.st.drive d).timer = .ms500 then becomeFaulted d t else t

/-! ## Ready (R6, R17) -/

/-- Ready rises (R6). -/
def readyRises (d : DriveNo) (t : Turn) : Turn :=
  let r := t.st.drive d
  if r.installed && r.state = .offline then
    t.upd fun s =>
      ((s.onDrive d fun r =>
          { r with state := .loadingMap, recalCount := 0, mismatch := none, loadAwaits := .stopped }).headSelect d
        0).seek d 655
  else t

/-- The connected context at drive `d`, if there is one, leaves the path as Ready falls (R17, R112). No OFFSET is sent to
a drive that is not ready (R4); its record takes offset NONE. -/
def connectedLost (d : DriveNo) (t : Turn) : Turn :=
  match t.st.active with
  | some a =>
    if a.drive = d then
      let t := t.upd State.cutRecording
      match a.conn with
      | .host _ _ =>
        if a.abandoned then
          abandonConnected (t.upd fun s => s.onDrive d fun r => { r with offset := .none })
        else completeConnected .notReady t
      | .work _ => t.upd fun s => s.dropActive d true
    else t
  | none => t

/-- An image service context that is not connected and whose request is for drive `d` ends NOT-READY (R112, R138). -/
def imageContextLost (d : DriveNo) (t : Turn) : Turn :=
  match t.st.slot imageSlot with
  | some p =>
    if p.drive = d then completeRequest imageSlot p none .notReady (t.upd fun s => s.setPending imageSlot false)
    else t
  | none => t

/-- The drive's table is unloaded (R24), with its unstarted MAP-WRITE order. -/
def mapUnloaded (d : DriveNo) (t : Turn) : Turn :=
  let t := t.upd fun s => (s.setMapState d .none).onMap d fun m =>
    { m with table := [], retired := [], writeOwed := false, unplaced := [] }
  t.each (t.st.orders.filter fun o => o.drive = d && o.kind = .mapWrite && !o.started) orderLeaves

/-- The drive enters OFFLINE (R17). The path is free at once if it waited for a mark of this drive (R112). -/
def State.goOffline (s : State) (d : DriveNo) : State :=
  let s := (s.disarm d).onDrive d fun r =>
    { r with
      state := .offline, rotationKnown := false, offset := .none, timer := .stopped, target := none, recalCount := 0
      mismatch := none, deferred := false }
  if s.arbiter.freeAt = some d then { s with arbiter := { s.arbiter with holder := none, freeAt := none } } else s

/-- Ready falls (R17). -/
def readyFalls (d : DriveNo) (t : Turn) : Turn :=
  let r := t.st.drive d
  if r.installed && r.state ≠ .offline then
    let t := imageContextLost d (connectedLost d (takeDue d t))
    let t := endDispatched d .notReady (t.upd fun s => s.goOffline d)
    markNotReady d (mapUnloaded d (orderLost d t))
  else t

/-! ## Position Fault (R14) -/

/-- The connected drive-slot or work context of drive `d` leaves the path at once, its progress kept (R110). -/
def State.leaveAtOnce (s : State) (d : DriveNo) : State :=
  if s.active.any fun a => a.drive = d && !a.isImage then s.cutRecording.disconnect.offset d .none else s

/-- RECALIBRATE with no work in hand (R14). -/
def State.recalibrateIdle (s : State) (d : DriveNo) : State :=
  (s.recalibrate d).onDrive d fun r => { r with state := .recalibrating, deferred := false }

/-- The connected context of drive `d`, which a reset has taken away, is abandoned as the fault stops its block (R14,
R112): the path is free at once, and the drive's positioning goes on with no work in hand (assumption 31). -/
def State.abandonAtFault (s : State) (d : DriveNo) : State :=
  match s.active with
  | some a =>
    match a.conn with
    | .host p i => ((s.cutRecording.abandonPath d p i).offset d .none).onDrive d fun r => { r with orphaned := true }
    | .work _ => s
  | none => s

/-- Position Fault in CONNECTED (R14): the context leaves the path at once, its progress kept, and the event is a
positioning failure of its request. A context that a reset has taken away is abandoned. A read that a condition has ended
and that still drains is not resumed (R111): with recalibration count 0 it completes with that condition, and the drive
recalibrates with no work in hand; with count 1 the drive becomes FAULTED and completes it (R11, R13; assumption 31). -/
def faultConnected (d : DriveNo) (t : Turn) : Turn :=
  match t.st.active with
  | some a =>
    if a.abandoned then positionFailure d (t.upd fun s => s.abandonAtFault d)
    else if a.leaving = some .ended && (t.st.drive d).recalCount = 0 then
      (completeConnected .condition t).upd fun s => s.recalibrateIdle d
    else positionFailure d (t.upd fun s => s.leaveAtOnce d)
  | none => t

/-- Position Fault (R14). -/
def positionFaulted (d : DriveNo) (t : Turn) : Turn :=
  let t := takeDue d t
  match (t.st.drive d).state with
  | .offline => t
  | .faulted => t
  | .seeking => positionFailure d t
  | .recalibrating => becomeFaulted d t
  | .orienting => positionFailure d (t.upd fun s => s.disarm d)
  | .connected => faultConnected d t
  | .idle => t.upd fun s => s.recalibrateIdle d
  | .loadingMap =>
    let t := t.upd fun s => s.recallLoad d
    if (t.st.drive d).timer = .ms500 then becomeFaulted d t
    else positionFailure d (t.upd fun s => (s.leaveAtOnce d).disarm d)
  | .sparing =>
    if (t.st.drive d).timer = .ms500 then becomeFaulted d t
    else positionFailure d (t.upd fun s => (s.leaveAtOnce d).disarm d)

/-! ## Write Fault (R16) -/

/-- A block whose LOST mark was being cleared when Write Fault was taken is in doubt (R3). -/
def State.doubtBlock (s : State) (a : Active) : State :=
  match a.diskPhysical, a.rewrite with
  | some t, some _ =>
    if a.blockMarks.isSome then s.onMap a.drive fun m =>
      if m.inDoubt.contains ⟨t, a.diskBlock⟩ then m else { m with inDoubt := m.inDoubt ++ [⟨t, a.diskBlock⟩] }
    else s
  | _, _ => s

/-- The track visit in progress yields FAILED (R16). -/
def Package.failVisit (p : Package) : Package :=
  if p.visitTrack.isSome then { p with visitResult := some .failed } else p

/-- A stop of S5 leaves the block at which it came with its earlier identity field (R169). -/
def State.keepMarkField (s : State) (w : Work) : State :=
  if w.kind = .sparingMark then s.onActive fun a => { a with rewrite := none } else s

/-- Write Fault (R16). A write that a reset has taken away is abandoned at once, with no record (DESIGN CHOICE, assumption
46). -/
def writeFaulted (d : DriveNo) (t : Turn) : Turn :=
  let t := takeDue d t
  match t.st.active with
  | some a =>
    if a.drive = d && a.writes then
      match a.conn with
      | .host _ _ =>
        let t := t.upd fun s => (s.cutRecording.doubtBlock a).onPackage Package.failVisit
        if a.abandoned then abandonConnected t else completeConnected .writeFault t
      | .work w =>
        t.upd fun s =>
          ((s.keepMarkField w).cutRecording.setWork d (some { w with result := some .failed })).dropActive d false
            |>.offset d .none
    else t
  | none => t

end Sys2Proof.Machine
end

