-- ==== Sys2Proof/Machine/Settle.lean ====
section
/-! DEFINITION. The follow-ups of a change: dispatch offers and choices (chapter 3), pass-through completion (4.6), image
service dispatch (R136), freed places and a freed Image Area (9.2, 9.3); and how a command's step is closed. -/

namespace Sys2Proof.Machine

/-! ## Starting an order (R42, R164) -/

/-- The drive can take work: IDLE, nothing dispatched, no string reset in progress (R41, R44). -/
def State.available (s : State) (d : DriveNo) : Bool :=
  (s.drive d).state = .idle && (s.drive d).dispatched.isNone && !s.resetting

/-- The oldest order for a drive (R159). -/
def State.oldestOrder (s : State) (d : DriveNo) : Option Order := s.orders.find? fun o => o.drive = d

/-- The order can start (R164). -/
def State.canStart (s : State) (o : Order) : Bool :=
  s.available o.drive &&
    (o.kind = .mapWrite || ((s.drive o.drive).mapState = .loaded && s.image.owner = .none))

/-! ## The dispatch choice (R45–R54) -/

/-- The entry is its port's eligible request for drive `d` (R45). -/
def State.eligible (s : State) (d : DriveNo) (e : Entry) : Bool :=
  (s.oldest e.port d).any (fun x => x.ref = e.ref) && e.request.drive = d && e.status = .queued && e.mark.isNone &&
    e.kind ≠ .spareTrack && ((s.drive d).holder.isNone || (s.drive d).holder = some e.port)

/-- The eligible set of drive `d`, in Request Queue order (R45). -/
def State.eligibleSet (s : State) (d : DriveNo) : List Entry := s.queue.filter (s.eligible d)

/-- The translation of a request's first track (R46). -/
def State.aim (s : State) (e : Entry) : Track × Bool :=
  Translation.target (firstTrack e.request) (s.translate e.request.drive (firstTrack e.request))

/-- The access estimate of an eligible request (R47–R51). -/
def State.estimate (s : State) (d : DriveNo) (e : Entry) : Nat :=
  accessEstimate (s.aim e).1.cyl (s.drive d).cylinder (s.drive d).angle e.request.firstBlock
    (hostLead e.kind false (s.port e.port).linkClass)

/-- The first of the entries with the least estimate (R52). -/
def leastEstimate (f : Entry → Nat) : List Entry → Option Entry
  | [] => none
  | e :: l =>
    match leastEstimate f l with
    | none => some e
    | some x => if f x < f e then some x else some e

/-- The chosen request (R52): the oldest urgent one, or the oldest of the least estimate. -/
def State.chosen (s : State) (d : DriveNo) : Option Entry :=
  let l := s.eligibleSet d
  match l.find? fun e => e.bypass = 8 with
  | some e => some e
  | none => leastEstimate (s.estimate d) l

/-- The package of a dispatched entry (R101). -/
def newPackage (e : Entry) (physical : Option Track) (alt : Bool) : Package where
  request := e.ref
  drive := e.request.drive
  kind := e.kind
  flags := e.request.flags
  firstTrack := firstTrack e.request
  firstBlock := e.request.firstBlock
  logical := firstTrack e.request
  physical := physical
  throughAlt := alt
  nextBlock := e.request.firstBlock
  baseCount := e.request.count
  count := e.request.count
  transferred := 0
  retryStep := 0
  heldStep := none
  conditions := []
  retries := 0
  revsLost := 0
  relocated := 0
  relocTracks := []
  pacing := 0
  verify := false
  visitTrack := none
  visitResult := none

/-- The bypass counts of the eligible requests not chosen (R53). -/
def State.countBypass (s : State) (passed : List EntryRef) : State :=
  { s with queue := s.queue.map fun e => if passed.contains e.ref then { e with bypass := min (e.bypass + 1) 8 } else e }

/-- The entry is DISPATCHED to a slot with its package there (R54). -/
def State.dispatchTo (s : State) (e : Entry) (i : Fin 9) (p : Package) : State :=
  (s.onEntry e.ref fun e => { e with status := .dispatched, slot := some i }).setSlot i (some p)

/-- The chosen request is dispatched (R54, R8). -/
def State.dispatchEntry (s : State) (d : DriveNo) (e : Entry) : State :=
  let (track, alt) := s.aim e
  let passed := ((s.eligibleSet d).map Entry.ref).filter fun r => r ≠ e.ref
  let s := s.dispatchTo e (driveSlot d) (newPackage e (some track) alt)
  let s := s.onDrive d fun r =>
    { r with dispatched := some e.ref, recalCount := 0, mismatch := none, deferred := false }
  (s.sendTo d track).countBypass passed

/-- The dispatch choice of an offer (R43, R52). -/
def State.choose (s : State) (d : DriveNo) : State :=
  if (s.drive d).rotationKnown then
    match s.chosen d with
    | some e => s.dispatchEntry d e
    | none => s
  else s.onDrive d fun r => { r with deferred := true }

/-- A dispatch offer (R41, R42). -/
def offer (d : DriveNo) (t : Turn) : Turn :=
  if t.st.available d then
    match t.st.oldestOrder d with
    | some o =>
      if o.kind = .mapWrite && (t.st.drive d).mapState = .degraded then orderLeaves o (t.push (.offer d))
      else if t.st.canStart o then startOrder o t
      else t.upd fun s => s.choose d
    | none => t.upd fun s => s.choose d
  else t

/-! ## Pass-through completion (R79, R80, R162) -/

/-- The record of a marked entry (R80). -/
def markedRecord (e : Entry) (m : PassMark) : CompletionRecord where
  tag := e.request.tag
  drive := e.request.drive
  kind := e.kind
  outcome := match m with
    | .range => .check
    | .notReady => .notReady
    | .withdrawn => .withdrawn
  conditions := match m with
    | .range => [.range]
    | .notReady => []
    | .withdrawn => []
  transferred := 0
  retries := 0
  revsLost := 0
  relocated := 0

/-- The record of a SPARE TRACK entry that holds its result (R162). -/
def resultRecord (e : Entry) (x : SpareResult) : CompletionRecord where
  tag := e.request.tag
  drive := e.request.drive
  kind := e.kind
  outcome := x.outcome
  conditions := x.conditions
  transferred := x.transferred
  retries := saturate x.retries
  revsLost := 0
  relocated := x.relocated

/-- The record with which an entry completes without the disk, if it may: by its mark, or by its result. -/
def State.passRecord (s : State) (e : Entry) : Option CompletionRecord :=
  match e.mark with
  | some m => some (markedRecord e m)
  | none => (s.results.find? fun x => x.ref = e.ref).map (resultRecord e)

/-- The pass-through completion rule for port `p` and drive `d`, once (R79): a completion makes it look again. -/
def passThrough (p : Port) (d : DriveNo) (t : Turn) : Turn :=
  if t.st.resetting || t.st.inFlight p d then t
  else
    match t.st.oldest p d with
    | some e =>
      match t.st.passRecord e with
      | some r =>
        let t := t.upd fun s =>
          { (s.appendRecord p r).removeEntry e.ref with results := s.results.filter fun x => x.ref ≠ e.ref }
        ((t.push (.passThrough p d)).push (.offer d)).push .imageCheck
      | none => t
    | none => t

/-! ## Image service dispatch (R136) -/

/-- The SPARE order in S4 to S6, with its track. -/
def State.imageOrder (s : State) : Option (Order × Nat) :=
  match s.orders.find? fun o => o.step = .s4 || o.step = .s5 || o.step = .s6 with
  | some o => o.track.map fun n => (o, n)
  | none => none

/-- The entry qualifies for image service of track `n` of drive `d` (R136). -/
def State.imageEligible (s : State) (d : DriveNo) (n : Nat) (e : Entry) : Bool :=
  e.kind = .readBlocks && e.mark.isNone && e.status ≠ .dispatched && e.request.drive = d &&
    trackNumber (firstTrack e.request) = n && decide (e.request.firstBlock + e.request.count ≤ 24) &&
    (s.oldest e.port d).any (fun x => x.ref = e.ref) && !s.inFlight e.port d &&
    ((s.drive d).holder.isNone || (s.drive d).holder = some e.port)

/-- An image service check (R136): none is made during a string reset (assumption 14). -/
def State.imageDispatch (s : State) : State :=
  if (s.slot imageSlot).isSome || s.resetting then s
  else
    match s.imageOrder with
    | some (o, n) =>
      match s.queue.find? (s.imageEligible o.drive n) with
      | some e => (s.dispatchTo e imageSlot (newPackage e none false)).setPending imageSlot true
      | none => s
    | none => s

/-! ## A freed Image Area (R164) -/

/-- The SPARE order that starts as the Image Area is freed: the first in the queue that is the oldest of its drive and
can start. -/
def State.nextOrder (s : State) : Option Order :=
  s.orders.find? fun o =>
    o.track.isSome && (s.oldestOrder o.drive).any (fun x => sameOrder x o) && s.canStart o

/-- The Image Area has no owner any more (R164). -/
def imageFreed (t : Turn) : Turn :=
  match t.st.nextOrder with
  | some o => startOrder o t
  | none => t

/-! ## Closing a step -/

/-- One follow-up. -/
def runTask (x : Task) (t : Turn) : Turn :=
  match x with
  | .offer d => offer d t
  | .passThrough p d => passThrough p d t
  | .imageCheck => t.upd State.imageDispatch
  | .freedPlace => freedPlace t
  | .imageFreed => imageFreed t

/-- Takes the follow-ups in order until none is due, or `n` have been taken. -/
def settle : Nat → Turn → Turn
  | 0, t => t
  | n + 1, t =>
    match t.todo with
    | [] => t
    | x :: l => settle n (runTask x { t with todo := l })

/-- The state a turn leaves. Follow-ups beyond the bound stay due; the next command takes them first (assumption 16). -/
def Turn.close (t : Turn) : State :=
  let t := settle 1000 t
  { t.st with followUps := t.todo }

/-- The turn a command starts with: nothing sent out yet, no follow-up left from before. -/
def Turn.start (s : State) : Turn := settle 1000 ⟨{ s.sending [] with followUps := [] }, s.followUps⟩

/-- The outcome of a command with effect `f`: it always answers a next state. -/
def complete (f : Turn → Turn) (s : State) : Host.Outcome State Fault Refusal := .next (f (Turn.start s)).close

end Sys2Proof.Machine
end

