-- ==== Sys2Proof/Machine/DriveEvents.lean ====
section
/-! DEFINITION. The meanings of the commands that come from the drive bus and from the seek timers. -/

namespace Sys2Proof.Machine

/-- READY_RISING (R6). -/
def execReadyRising (d : DriveNo) (s : State) : Host.Outcome State Fault Refusal := complete (readyRises d) s

/-- READY_FALLING (R17). -/
def execReadyFalling (d : DriveNo) (s : State) : Host.Outcome State Fault Refusal := complete (readyFalls d) s

/-- POSITIONED (R9). -/
def execPositioned (d : DriveNo) (cyl : Nat) (s : State) : Host.Outcome State Fault Refusal :=
  complete (positioned d cyl) s

/-- POSITION_FAULT (R14). -/
def execPositionFault (d : DriveNo) (s : State) : Host.Outcome State Fault Refusal := complete (positionFaulted d) s

/-- WRITE_FAULT (R16). -/
def execWriteFault (d : DriveNo) (s : State) : Host.Outcome State Fault Refusal := complete (writeFaulted d) s

/-- SECTOR_MARK (R1, R122). -/
def execSectorMark (d : DriveNo) (input : MarkInput) (s : State) : Host.Outcome State Fault Refusal :=
  complete (sectorMarked d input) s

/-- INDEX_MARK (R1). -/
def execIndexMark (d : DriveNo) (input : MarkInput) (s : State) : Host.Outcome State Fault Refusal :=
  complete (indexMarked d input) s

/-- SEEK_TIMEOUT (R11). -/
def execSeekTimeout (d : DriveNo) (s : State) : Host.Outcome State Fault Refusal := complete (seekTimedOut d) s

/-- RECALIBRATION_TIMEOUT (R12). -/
def execRecalibrationTimeout (d : DriveNo) (s : State) : Host.Outcome State Fault Refusal :=
  complete (recalibrationTimedOut d) s

/-- WINDOW_EXPIRY (R58, R117). -/
def execWindowExpiry (d : DriveNo) (s : State) : Host.Outcome State Fault Refusal :=
  complete (fun t => t.upd fun s => s.expireWindow d) s

end Sys2Proof.Machine
end

