-- ==== Sys2Proof/Machine/Ports.lean ====
section
/-! DEFINITION. The Port Units: link exchanges, admission, acceptance, reservations, sense, Collect (chapters 4, 5 and
10.4), and the start of a string reset (R81, R19). -/

namespace Sys2Proof.Machine

/-! ## Answers -/

/-- The kind code of a request (11.2); a Collect carries none. -/
def HostExchange.kindCode : HostExchange → Nat
  | .drive .readBlocks _ => 1
  | .drive .writeBlocks _ => 2
  | .drive .spareTrack _ => 3
  | .sense _ _ => 8
  | .reserve _ _ => 9
  | .release _ _ => 10
  | .resetString _ => 15
  | .unknown k _ => k
  | .collect => 0

/-- The tag of a request. -/
def HostExchange.tag : HostExchange → Nat
  | .drive _ m => m.tag
  | .sense t _ => t
  | .reserve t _ => t
  | .release t _ => t
  | .resetString t => t
  | .unknown _ t => t
  | .collect => 0

/-- The reply to the exchange in progress on the link is `m` (R64, R65). -/
def State.reply (s : State) (p : Port) (m : Message) : State := s.onPort p fun u => { u with reply := some m }

/-- The reply to the request in progress is its Answer with result `r` (R64). -/
def State.answer (s : State) (p : Port) (x : HostExchange) (r : AnswerResult) : State :=
  s.reply p (.answer (HostExchange.kindCode x) (HostExchange.tag x) r)

/-- The reply has been given: it goes out, and the link enters IDLE (R64, R65). -/
def State.giveReply (s : State) (p : Port) : State :=
  let s := match (s.port p).reply with
    | some m => s.emit (.message p m)
    | none => s
  s.onPort p fun u => { u with link := .idle, reply := none }

/-! ## Admission (R68) -/

/-- The tag is in use at the port (R69). -/
def State.tagInUse (s : State) (p : Port) (tag : Nat) : Bool :=
  s.queue.any (fun e => e.port = p && e.request.tag = tag) || (s.port p).status.any fun r => r.tag = tag

/-- Check 4: the drive is installed. -/
def State.noDrive (s : State) (d : DriveNo) : Option AnswerResult :=
  if (s.drive d).installed then none else some .noDrive

/-- Check 5: the reservation. -/
def State.reservedElsewhere (s : State) (p : Port) (d : DriveNo) : Option AnswerResult :=
  if (s.drive d).holder.isNone || (s.drive d).holder = some p then none else some .reservedElsewhere

/-- Checks 6 to 8: the tag, the port's limit, the queue. -/
def State.overLimit (s : State) (p : Port) (tag : Nat) : Option AnswerResult :=
  if s.tagInUse p tag then some .duplicateTag
  else if 12 ≤ (s.port p).outstanding then some .portLimit
  else if 32 ≤ s.queue.length then some .queueFull
  else none

/-- Check 3: maintenance permission. -/
def State.notPermitted (s : State) (p : Port) : Option AnswerResult :=
  if (s.port p).maintenance then none else some .notPermitted

/-- The refusal of a Request, if a check fails: the first that fails (R68). A Collect is never refused (R65, R82). A
RELEASE DRIVE that comes together with the completion of a string reset and is taken first is refused RESETTING: R96 says
RELEASED of that case, and RESETTING of every release taken while the reset is in progress (DESIGN CHOICE, assumption
40). -/
def State.refusal (s : State) (p : Port) (x : HostExchange) : Option AnswerResult :=
  if s.resetting && x ≠ .collect then some .resetting
  else
    match x with
    | .unknown _ _ => some .invalid
    | .drive .spareTrack m =>
      (((s.notPermitted p).or (s.noDrive m.drive)).or (s.reservedElsewhere p m.drive)).or (s.overLimit p m.tag)
    | .drive _ m => ((s.noDrive m.drive).or (s.reservedElsewhere p m.drive)).or (s.overLimit p m.tag)
    | .sense _ d => s.noDrive d
    | .reserve _ d => (s.noDrive d).or (s.reservedElsewhere p d)
    | .release _ d => s.noDrive d
    | .resetString _ => s.notPermitted p
    | .collect => none

/-! ## Acceptance of a drive request (R70–R75) -/

/-- The mark of an accepted entry (R70). -/
def State.acceptMark (s : State) (kind : RequestKind) (m : DriveRequest) : Option PassMark :=
  if outOfRange kind m then some .range
  else if (s.drive m.drive).state = .offline || (s.drive m.drive).state = .faulted then some .notReady
  else none

/-- The entry of an accepted request (R70, R76). -/
def State.newEntry (s : State) (p : Port) (kind : RequestKind) (m : DriveRequest) : Entry :=
  let e : Entry := ⟨p, kind, m, 0, .queued, s.acceptMark kind m, none, none⟩
  if e.mark.isNone && s.touchesHeld e then { e with status := .held } else e

/-- The outstanding count rises by 1; Hold is raised at 10 (R74, R75). -/
def PortUnit.countIn (u : PortUnit) : PortUnit :=
  { u with outstanding := u.outstanding + 1, holdLine := u.holdLine || decide (u.outstanding + 1 = 10) }

/-- A drive request is accepted (R70). -/
def acceptRequest (p : Port) (kind : RequestKind) (m : DriveRequest) (t : Turn) : Turn :=
  let e := t.st.newEntry p kind m
  let t := t.upd fun s => { s with queue := s.queue ++ [e] }
  let t := if kind = .spareTrack && e.mark.isNone then
      (placeSpareTrack e.ref m.drive (trackNumber (firstTrack m)) t).1
    else t
  let t := t.upd fun s => (s.onPort p PortUnit.countIn).answer p (.drive kind m) .accepted
  ((t.push (.passThrough p m.drive)).push (.offer m.drive)).push .imageCheck

/-! ## Reservations (R87–R89, R94, R95) -/

/-- The entry is marked WITHDRAWN at a grant to port `p` for drive `d` (R88, R89, R162). -/
def State.withdraws (s : State) (p : Port) (d : DriveNo) (e : Entry) : Bool :=
  e.request.drive = d && e.port ≠ p && e.mark.isNone && e.status ≠ .dispatched && !s.hasResult e.ref &&
    !s.orders.any fun o => o.requester = some e.ref && o.started

/-- The withdrawal of a grant (R88, R89). The orders that are removed go in Request Queue order of their entries (DESIGN
CHOICE, assumption 35). -/
def withdraw (p : Port) (d : DriveNo) (t : Turn) : Turn :=
  let lost := t.st.queue.filter (t.st.withdraws p d)
  let t := t.upd fun s =>
    { s with
      queue := s.queue.map fun e =>
        if s.withdraws p d e then { e with mark := some .withdrawn, status := .queued } else e }
  let t := t.each (lost.filter fun e => e.kind = .spareTrack) fun e => detachEntry e.ref
  let t := t.whenDo (lost.any fun e => e.status = .held) fun t => t.push (.offer d)
  t.each (allPorts.filter fun q => lost.any fun e => e.port = q) fun q t => t.push (.passThrough q d)

/-- RESERVE DRIVE is granted (R87). The effect stands whether or not its Answer is then given (R98). -/
def grantReserve (p : Port) (d : DriveNo) (x : HostExchange) (t : Turn) : Turn :=
  withdraw p d (t.upd fun s => (s.onDrive d fun r => { r with holder := some p }).answer p x .granted)

/-- RELEASE DRIVE (R94, R95). The effect stands whether or not its Answer is then given (R98). -/
def State.releaseDrive (s : State) (p : Port) (d : DriveNo) (x : HostExchange) : State :=
  if (s.drive d).holder = some p then
    ((s.onDrive d fun r => { r with holder := none }).addAttention d).answer p x .released
  else s.answer p x .notHolder

/-! ## Sense (R183, R184) -/

/-- The sparing in flight: track and step of the SPARE order started on the drive. -/
def State.sparingInFlight (s : State) (d : DriveNo) : Option (Nat × OrderStep) :=
  match s.startedOrder d with
  | some o => o.track.map fun n => (n, o.step)
  | none => none

/-- The sense record of drive `d` (R183). -/
def State.senseRecord (s : State) (d : DriveNo) : SenseRecord :=
  let r := s.drive d
  let m := s.map d
  let loaded := decide (r.mapState ≠ .none)
  { state := r.state
    mapState := r.mapState
    used := if loaded then m.table.length else 0
    retired := if loaded then m.retired.length else 0
    free := if loaded then m.freeCount else 0
    holder := r.holder
    cylinder := r.cylinder
    lastCheck := m.lastCheck
    recommended := s.recommendedTracks d
    sparing := s.sparingInFlight d
    originalUnmarked := m.originalUnmarked }

/-- Answers SENSE DRIVE with the sense record (R64). -/
def State.answerSense (s : State) (p : Port) (tag : Nat) (d : DriveNo) : State :=
  s.reply p (.senseAnswer tag (s.senseRecord d))

/-! ## Collect (R65) -/

/-- A record leaves the port: the count falls by 1, Hold is lowered at 6 (R74, R75). -/
def PortUnit.countOut (u : PortUnit) (rest : List CompletionRecord) : PortUnit :=
  PortUnit.refreshPending
    { u with
      status := rest, outstanding := u.outstanding - 1
      holdLine := u.holdLine && !decide (u.outstanding - 1 = 6) }

/-- A Collect is taken (R65). -/
def State.collect (s : State) (p : Port) : State :=
  match (s.port p).status with
  | r :: rest => (s.onPort p fun u => u.countOut rest).reply p (.record r)
  | [] =>
    if (s.port p).attention ≠ noDrives then
      (s.onPort p fun u => PortUnit.refreshPending { u with attention := noDrives }).reply p
        (.attention (s.port p).attention)
    else s.reply p .nothingPending

/-! ## The quiesce of a string reset (R19, R81, R175) -/

/-- The drive's dispatched request is taken away: its slot is freed once the drive is at rest, or at the end of the
block in progress (R19, R20, R112). -/
def takeAway (d : DriveNo) (t : Turn) : Turn :=
  match (t.st.drive d).state with
  | .orienting => enterIdle d (t.upd fun s => s.disarm d)
  | .connected =>
    if t.st.active.any fun a => a.drive = d && !a.isImage then abandonSoon t else t
  | .seeking => t.upd fun s => s.onDrive d fun r => { r with orphaned := true }
  | .recalibrating =>
    if (t.st.drive d).dispatched.isSome then t.upd fun s => s.onDrive d fun r => { r with orphaned := true } else t
  | .offline => t
  | .loadingMap => t
  | .idle => t
  | .sparing => t
  | .faulted => t

/-- The image service context is taken away (R85, R112). -/
def takeAwayImage (t : Turn) : Turn :=
  if t.st.active.any Active.isImage then abandonSoon t
  else if (t.st.slot imageSlot).isSome then
    (imageContextEnded (t.upd fun s => (s.setSlot imageSlot none).setPending imageSlot false)).push .imageCheck
  else t

/-- What is due at the connected context is taken before a reset reaches it (assumption 2). -/
def dueConnected (t : Turn) : Turn :=
  match t.st.active with
  | some a => takeDue a.drive t
  | none => t

/-- A string reset is accepted (R81): it is in progress, and every drive begins its quiesce. -/
def beginStringReset (p : Port) (tag : Nat) (t : Turn) : Turn :=
  let t := (dueConnected t).upd fun s => { s with stringReset := some ⟨some (p, tag)⟩ }
  let t := t.each allDrives fun d t =>
    abandonS1 d (takeAway d (t.upd fun s => s.onDrive d fun r => { r with deferred := false }))
  takeAwayImage t

/-! ## Taking an exchange (R63, R64) -/

/-- The effect of a Request that no check refuses. -/
def admitted (p : Port) (x : HostExchange) (t : Turn) : Turn :=
  match x with
  | .drive kind m => acceptRequest p kind m t
  | .sense tag d => t.upd fun s => s.answerSense p tag d
  | .reserve _ d => grantReserve p d x t
  | .release _ d => t.upd fun s => s.releaseDrive p d x
  | .resetString tag => beginStringReset p tag t
  | .unknown _ _ => t
  | .collect => t.upd fun s => s.collect p

/-- The link of the port that awaits the Answer of a string reset (R64, R81). -/
def State.awaitsReset (s : State) (p : Port) : Bool :=
  s.stringReset.any fun r => r.requester.any fun x => x.1 = p

/-- How the exchange stands once it has had its effect: its reply has been given, or the link stays in EXCHANGE while the
reply is still carried or the Answer of a string reset is awaited (assumption 19, R64). -/
def State.afterExchange (s : State) (p : Port) (lingers : Bool) : State :=
  if lingers || s.awaitsReset p then s else s.giveReply p

/-- A host exchange is taken (R63): the link enters EXCHANGE, the exchange has its effect and its reply. -/
def takeExchange (p : Port) (x : Presented) (t : Turn) : Turn :=
  let t := t.upd fun s => s.onPort p fun u => { u with link := .exchange, reply := none }
  let t := match t.st.refusal p x.exchange with
    | some r => t.upd fun s => s.answer p x.exchange r
    | none => admitted p x.exchange t
  t.upd fun s => s.afterExchange p x.lingers

/-- The waiting host exchange is taken, when the link is IDLE (R63). It is taken by its own command and is not forced at
the end of the data connection: another command may come before it (DESIGN CHOICE, assumption 2). -/
def takeWaiting (p : Port) (t : Turn) : Turn :=
  match (t.st.port p).link, (t.st.port p).waiting with
  | .idle, some x => takeExchange p x (t.upd fun s => s.onPort p fun u => { u with waiting := none })
  | _, _ => t

/-- The link is still carrying a reply (assumption 19). -/
def State.lingers (s : State) (p : Port) : Bool := (s.port p).link = .exchange && !s.awaitsReset p

/-- A reply that the link is still carrying is given now (assumption 19), as a new exchange on the link shows. -/
def State.endLingering (s : State) (p : Port) : State := if s.lingers p then s.giveReply p else s

/-- A host presents an exchange (R63). One that the link cannot carry has no effect (assumption 30). -/
def present (p : Port) (x : Presented) (t : Turn) : Turn :=
  let t := takeWaiting p (t.upd fun s => s.endLingering p)
  match (t.st.port p).link with
  | .idle => takeExchange p x t
  | .data =>
    if (t.st.port p).waiting.isNone then t.upd fun s => s.onPort p fun u => { u with waiting := some x } else t
  | .exchange => if t.st.awaitsReset p then t else takeExchange p x (t.upd fun s => s.endLingering p)

end Sys2Proof.Machine
end

