-- ==== Sys2Proof/Machine/Resets.lean ====
section
/-! DEFINITION. Power-on reset, the completion of a string reset, and port reset (R5, R19, R20, R61, R82–R85, R175). -/

namespace Sys2Proof.Machine

/-! ## Power-on reset -/

/-- Power-on reset with the given straps (R5, R62, R185). The media stay as recorded, with a recording in progress cut
off; the queue of commands is the world's and stays. -/
def State.powerOnReset (s : State) (straps : Straps) : State :=
  let s := s.cutRecording
  { State.powerOn straps s.media with pending := s.pending, freeIndex := s.freeIndex }

/-! ## Completion of a string reset (R83) -/

/-- The drive is still being brought to rest (R83). -/
def DriveState.busy : DriveState → Bool
  | .seeking => true
  | .orienting => true
  | .connected => true
  | .recalibrating => true
  | .sparing => true
  | .offline => false
  | .loadingMap => false
  | .idle => false
  | .faulted => false

/-- The string reset can complete (R83). -/
def State.resetDone (s : State) : Bool :=
  s.resetting && s.active.isNone && !allDrives.any fun d => DriveState.busy (s.drive d).state

/-- A drive record at the completion of a string reset (R19). A map load still in progress goes on: it awaits the answer
of its unanswered SEEK or RECALIBRATE, though no limit runs for it any more (assumption 13). -/
def DriveRecord.afterStringReset (r : DriveRecord) : DriveRecord :=
  let set : DriveRecord :=
    { r with
      dispatched := none, target := none, timer := .stopped, recalCount := 0, mismatch := none, offset := .none
      holder := none, orphaned := false }
  if r.state = .loadingMap then { set with loadAwaits := r.unanswered }
  else { set with deferred := false, boundaryMissed := false }

/-- A Port Unit at the completion of a string reset (R83); its link state and waiting exchange are kept. -/
def PortUnit.afterStringReset (installed : Vector Bool 8) (u : PortUnit) : PortUnit :=
  PortUnit.refreshPending { u with status := [], outstanding := 0, holdLine := false, attention := installed }

/-- The pending set keeps only the requesters of map loads still in progress (R83). -/
def State.resetPending (s : State) : State :=
  allDrives.foldl (fun s d => if (s.drive d).state = .loadingMap then s else s.disarm d) (s.setPending imageSlot false)

/-- The Answer COMPLETED is given to the requesting port, if its exchange still stands (R82, R83). -/
def State.answerReset (s : State) (x : Option (Port × Nat)) : State :=
  match x with
  | some (p, tag) => (s.answer p (.resetString tag) .completed).giveReply p
  | none => s

/-- The items that a completed string reset sets, all in one step (R83, R19, R175). -/
def State.stringResetItems (s : State) : State :=
  let installed := s.installedSet
  let s := (allDrives.foldl (fun s d => s.onDrive d DriveRecord.afterStringReset) s).resetPending
  let s := allPorts.foldl (fun s p => s.onPort p (PortUnit.afterStringReset installed)) s
  { s with
    queue := []
    slots := Vector.replicate 9 none
    active := none
    dataPath := DataPath.empty
    arbiter := { s.arbiter with holder := none, freeAt := none }
    awaiting := []
    results := []
    orders := s.orders.map fun o => { o with requester := none } }

/-- STRING_RESET_COMPLETE (R83): the items are set, REQUEST orders removed (R175), the Answer is given, and every drive
in IDLE is offered (R44). The rules give the offers no order; they are made for drives 0 to 7, ascending (DESIGN CHOICE,
assumption 24), which decides whose kept SPARE order takes the Image Area. The orders are removed head of the Sparing Queue
first (DESIGN CHOICE, assumption 35). -/
def completeStringReset (t : Turn) : Turn :=
  if t.st.resetDone then
    let requester := t.st.stringReset.bind StringReset.requester
    let t := imageContextEnded (t.upd State.stringResetItems)
    let t := t.each (t.st.orders.filter fun o => o.origin = some .request && !o.started) orderRemoved
    let t := t.upd fun s => ({ s with stringReset := none }).answerReset requester
    t.each allDrives fun d t => t.push (.offer d)
  else t

/-! ## Port reset (R84, R85, R20) -/

/-- A Port Unit after its port reset (R84). An exchange in progress ends: a reply not yet given is not given. -/
def PortUnit.afterPortReset (installed : Vector Bool 8) (u : PortUnit) : PortUnit :=
  PortUnit.refreshPending
    { u with
      link := .idle, reply := none, waiting := none, status := [], outstanding := 0, holdLine := false
      attention := installed }

/-- The port leaves its entries, its orders' requesting entries, its results and its awaiting entries (R85, R175). -/
def State.dropPort (s : State) (p : Port) : State :=
  { s with
    queue := s.queue.filter fun e => e.port ≠ p
    awaiting := s.awaiting.filter fun r => r.port ≠ p
    results := s.results.filter fun x => x.ref.port ≠ p
    orders := s.orders.map fun o =>
      if o.requester.any fun r => r.port = p then { o with requester := none } else o
    stringReset := s.stringReset.map fun r =>
      if r.requester.any fun x => x.1 = p then { r with requester := none } else r }

/-- What a removed entry sets off: its work ends (R20, R85), its drive is offered (R41). -/
def entryTaken (e : Entry) (t : Turn) : Turn :=
  let d := e.request.drive
  let t :=
    if e.status = .dispatched then (if e.slot = some imageSlot then takeAwayImage t else takeAway d t) else t
  (t.push (.offer d)).push .imageCheck

/-- PORT_RESET (R84, R85, R20). The offers of the drives whose entries it removes are made in acceptance order of those
entries (DESIGN CHOICE, assumption 24; R41 gives no order), which decides whose SPARE order takes a free Image Area. -/
def portResetTaken (p : Port) (t : Turn) : Turn :=
  let t := dueConnected t
  let taken := t.st.queue.filter fun e => e.port = p
  let t := t.upd fun s => (s.onPort p (PortUnit.afterPortReset s.installedSet)).dropPort p
  t.each taken entryTaken

/-! ## The unit at rest (assumption 1) -/

/-- No command is waiting: the replies that the links are still carrying are given, and nothing else happens. -/
def State.idle (s : State) : State :=
  if allPorts.any s.lingers then allPorts.foldl (fun s p => s.endLingering p) (s.sending []) else s

end Sys2Proof.Machine
end

