-- ==== Sys2Proof/Machine/HostCommands.lean ====
section
/-! DEFINITION. The meanings of the commands that come from the host links: host exchanges and resets. -/

namespace Sys2Proof.Machine

/-- POWER_ON_RESET (R5). Nothing left from before is due after it. -/
def execPowerOnReset (straps : Straps) (s : State) : Host.Outcome State Fault Refusal :=
  .next (s.powerOnReset straps)

/-- PORT_RESET (R84). -/
def execPortReset (p : Port) (s : State) : Host.Outcome State Fault Refusal := complete (portResetTaken p) s

/-- READ_BLOCKS (R70). -/
def execReadBlocks (p : Port) (m : DriveRequest) (lingers : Bool) (s : State) : Host.Outcome State Fault Refusal :=
  complete (present p ⟨.drive .readBlocks m, lingers⟩) s

/-- WRITE_BLOCKS (R70). -/
def execWriteBlocks (p : Port) (m : DriveRequest) (lingers : Bool) (s : State) : Host.Outcome State Fault Refusal :=
  complete (present p ⟨.drive .writeBlocks m, lingers⟩) s

/-- SPARE_TRACK (R161). -/
def execSpareTrack (p : Port) (m : DriveRequest) (lingers : Bool) (s : State) : Host.Outcome State Fault Refusal :=
  complete (present p ⟨.drive .spareTrack m, lingers⟩) s

/-- SENSE_DRIVE (R183). -/
def execSenseDrive (p : Port) (tag : Nat) (d : DriveNo) (lingers : Bool) (s : State) :
    Host.Outcome State Fault Refusal := complete (present p ⟨.sense tag d, lingers⟩) s

/-- RESERVE_DRIVE (R87). -/
def execReserveDrive (p : Port) (tag : Nat) (d : DriveNo) (lingers : Bool) (s : State) :
    Host.Outcome State Fault Refusal := complete (present p ⟨.reserve tag d, lingers⟩) s

/-- RELEASE_DRIVE (R94). -/
def execReleaseDrive (p : Port) (tag : Nat) (d : DriveNo) (lingers : Bool) (s : State) :
    Host.Outcome State Fault Refusal := complete (present p ⟨.release tag d, lingers⟩) s

/-- RESET_STRING (R81). -/
def execResetString (p : Port) (tag : Nat) (lingers : Bool) (s : State) : Host.Outcome State Fault Refusal :=
  complete (present p ⟨.resetString tag, lingers⟩) s

/-- UNKNOWN_KIND_REQUEST (R68). -/
def execUnknownKindRequest (p : Port) (kindCode tag : Nat) (lingers : Bool) (s : State) :
    Host.Outcome State Fault Refusal := complete (present p ⟨.unknown kindCode tag, lingers⟩) s

/-- COLLECT (R65). -/
def execCollect (p : Port) (lingers : Bool) (s : State) : Host.Outcome State Fault Refusal :=
  complete (present p ⟨.collect, lingers⟩) s

/-- WAITING_HOST_EXCHANGE_TAKEN (R63). -/
def execWaitingHostExchangeTaken (p : Port) (s : State) : Host.Outcome State Fault Refusal :=
  complete (takeWaiting p) s

end Sys2Proof.Machine
end

