-- ==== Sys2Proof/Machine/Internal.lean ====
section
/-! DEFINITION. The meanings of the unit's own steps that the table lists as rows. One that is not due changes nothing
(assumption 2). -/

namespace Sys2Proof.Machine

/-- LINK_TIMEOUT (R131). -/
def execLinkTimeout (s : State) : Host.Outcome State Fault Refusal := complete linkTimedOut s

/-- IMAGE_SERVICE_STALL (R138). -/
def execImageServiceStall (s : State) : Host.Outcome State Fault Refusal := complete imageStall s

/-- ARBITER_GRANT (R116): the grant is made when the path is free and a pending requester is unmasked. -/
def grantNext (t : Turn) : Turn :=
  match t.st.nextGrant with
  | some i => t.upd fun s => s.grant i
  | none => t

/-- ARBITER_GRANT (R116). -/
def execArbiterGrant (s : State) : Host.Outcome State Fault Refusal := complete grantNext s

/-- EXCHANGE_OUT (R105). -/
def execExchangeOut (s : State) : Host.Outcome State Fault Refusal := complete exchangeOutNow s

/-- The map operation that has waited longest takes the freed map buffer (R29). -/
def State.bufferNext (s : State) : State :=
  match s.mapBuffer.owner, s.mapBuffer.waiting with
  | none, op :: _ => s.takeBuffer op
  | _, _ => s

/-- MAP_BUFFER_TAKEN (R29). -/
def execMapBufferTaken (s : State) : Host.Outcome State Fault Refusal :=
  complete (fun t => t.upd State.bufferNext) s

/-- MAP_LOAD_END (R31). -/
def execMapLoadEnd (d : DriveNo) (s : State) : Host.Outcome State Fault Refusal := complete (mapLoadEnd d) s

/-- MAP_WRITE_END (R34). -/
def execMapWriteEnd (d : DriveNo) (s : State) : Host.Outcome State Fault Refusal := complete (mapWriteEnd d) s

/-- SPARING_READ_END (R167). -/
def execSparingReadEnd (d : DriveNo) (s : State) : Host.Outcome State Fault Refusal := complete (sparingReadEnd d) s

/-- SPARING_WRITE_VERIFY_END (R168). -/
def execSparingWriteVerifyEnd (d : DriveNo) (s : State) : Host.Outcome State Fault Refusal :=
  complete (sparingWriteVerifyEnd d) s

/-- SPARING_MARK_END (R169). -/
def execSparingMarkEnd (d : DriveNo) (s : State) : Host.Outcome State Fault Refusal := complete (sparingMarkEnd d) s

/-- STRING_RESET_COMPLETE (R83). -/
def execStringResetComplete (s : State) : Host.Outcome State Fault Refusal := complete completeStringReset s

end Sys2Proof.Machine
end

