-- ==== Sys2Proof/Machine/Dispatch.lean ====
section
/-! DEFINITION. The effect of a command on everything but the queue: one arm per constructor. -/

namespace Sys2Proof.Machine

def exec (i : Instr) (s : State) : Host.Outcome State Fault Refusal :=
  match i with
  | .powerOnReset straps => Sys2Proof.Machine.execPowerOnReset straps s
  | .portReset p => Sys2Proof.Machine.execPortReset p s
  | .readBlocks p m lingers => Sys2Proof.Machine.execReadBlocks p m lingers s
  | .writeBlocks p m lingers => Sys2Proof.Machine.execWriteBlocks p m lingers s
  | .spareTrack p m lingers => Sys2Proof.Machine.execSpareTrack p m lingers s
  | .senseDrive p tag d lingers => Sys2Proof.Machine.execSenseDrive p tag d lingers s
  | .reserveDrive p tag d lingers => Sys2Proof.Machine.execReserveDrive p tag d lingers s
  | .releaseDrive p tag d lingers => Sys2Proof.Machine.execReleaseDrive p tag d lingers s
  | .resetString p tag lingers => Sys2Proof.Machine.execResetString p tag lingers s
  | .unknownKindRequest p kindCode tag lingers => Sys2Proof.Machine.execUnknownKindRequest p kindCode tag lingers s
  | .collect p lingers => Sys2Proof.Machine.execCollect p lingers s
  | .waitingHostExchangeTaken p => Sys2Proof.Machine.execWaitingHostExchangeTaken p s
  | .readyRising d => Sys2Proof.Machine.execReadyRising d s
  | .readyFalling d => Sys2Proof.Machine.execReadyFalling d s
  | .positioned d cyl => Sys2Proof.Machine.execPositioned d cyl s
  | .positionFault d => Sys2Proof.Machine.execPositionFault d s
  | .writeFault d => Sys2Proof.Machine.execWriteFault d s
  | .sectorMark d input => Sys2Proof.Machine.execSectorMark d input s
  | .indexMark d input => Sys2Proof.Machine.execIndexMark d input s
  | .seekTimeout d => Sys2Proof.Machine.execSeekTimeout d s
  | .recalibrationTimeout d => Sys2Proof.Machine.execRecalibrationTimeout d s
  | .windowExpiry d => Sys2Proof.Machine.execWindowExpiry d s
  | .linkTimeout => Sys2Proof.Machine.execLinkTimeout s
  | .imageServiceStall => Sys2Proof.Machine.execImageServiceStall s
  | .arbiterGrant => Sys2Proof.Machine.execArbiterGrant s
  | .exchangeOut => Sys2Proof.Machine.execExchangeOut s
  | .mapBufferTaken => Sys2Proof.Machine.execMapBufferTaken s
  | .mapLoadEnd d => Sys2Proof.Machine.execMapLoadEnd d s
  | .mapWriteEnd d => Sys2Proof.Machine.execMapWriteEnd d s
  | .sparingReadEnd d => Sys2Proof.Machine.execSparingReadEnd d s
  | .sparingWriteVerifyEnd d => Sys2Proof.Machine.execSparingWriteVerifyEnd d s
  | .sparingMarkEnd d => Sys2Proof.Machine.execSparingMarkEnd d s
  | .stringResetComplete => Sys2Proof.Machine.execStringResetComplete s

end Sys2Proof.Machine
end

