-- ==== Sys2Proof/Machine/Messages.lean ====
section
/-! DEFINITION. The bytes of the link messages (chapter 11). The commands carry a request's fields; these functions say
how the fields lie in the messages, and what the unit's own messages are on the link. -/

namespace Sys2Proof.Machine

/-- The low byte of a number. -/
def lowByte (n : Nat) : Byte := BitVec.ofNat 8 n

/-- A two-byte field, more significant part first (11.1). -/
def twoBytes (n : Nat) : List Byte := [lowByte (n / 256), lowByte n]

/-- The number a list of bits stands for, bit 0 first. -/
def bitsNat : List Bool → Nat
  | [] => 0
  | b :: l => (if b then 1 else 0) + 2 * bitsNat l

/-! ## The request message (11.2) -/

/-- The mode flags byte. -/
def flagsNat (f : ModeFlags) : Nat :=
  bitsNat [f.noRetry, f.noOffset, f.sparePermit, f.holdPath, f.showRecovered, f.verifyWrite]

/-- The mode flags of byte 7. -/
def flagsOf (b : Byte) : ModeFlags :=
  ⟨b.getLsbD 0, b.getLsbD 1, b.getLsbD 2, b.getLsbD 3, b.getLsbD 4, b.getLsbD 5⟩

/-- A request message from its fields (11.2), unassigned bits 0. -/
def requestMessage (kind tag drive cyl head first count flags : Nat) : List Byte :=
  [lowByte (kind * 16), lowByte tag, lowByte (drive * 32 + cyl / 256), lowByte cyl, lowByte head, lowByte first,
    lowByte count, lowByte flags]

/-- The request message of a host exchange; a Collect carries none (11.1). Fields that a kind does not use are 0. -/
def requestBytes (x : HostExchange) : List Byte :=
  let code := HostExchange.kindCode x
  let tag := HostExchange.tag x
  match x with
  | .drive _ m => requestMessage code tag m.drive.val m.cyl m.head m.firstBlock m.count (flagsNat m.flags)
  | .sense _ d => requestMessage code tag d.val 0 0 0 0 0
  | .reserve _ d => requestMessage code tag d.val 0 0 0 0 0
  | .release _ d => requestMessage code tag d.val 0 0 0 0 0
  | .resetString _ => requestMessage code tag 0 0 0 0 0 0
  | .unknown _ _ => requestMessage code tag 0 0 0 0 0 0
  | .collect => []

/-- The drive named in byte 2. -/
def driveOf (b : Byte) : DriveNo := ⟨b.toNat / 32, by have := b.isLt; omega⟩

/-- The fields of a drive request's message (11.2). -/
def requestFields (b1 b2 b3 b4 b5 b6 b7 : Byte) : DriveRequest where
  tag := b1.toNat % 64
  drive := driveOf b2
  cyl := b2.toNat % 4 * 256 + b3.toNat
  head := b4.toNat % 16
  firstBlock := b5.toNat % 32
  count := b6.toNat % 128
  flags := flagsOf b7

/-- The request a message of 8 bytes presents (R186, 11.2). Bits that no table assigns are ignored. -/
def readRequest (l : List Byte) : Option HostExchange :=
  match l with
  | [b0, b1, b2, b3, b4, b5, b6, b7] =>
    let m := requestFields b1 b2 b3 b4 b5 b6 b7
    some (match b0.toNat / 16 with
      | 1 => .drive .readBlocks m
      | 2 => .drive .writeBlocks m
      | 3 => .drive .spareTrack m
      | 8 => .sense m.tag m.drive
      | 9 => .reserve m.tag m.drive
      | 10 => .release m.tag m.drive
      | 15 => .resetString m.tag
      | k => .unknown k m.tag)
  | _ => none

/-! ## Codes (11.3, 11.4, 11.6) -/

/-- The code of an Answer's result. -/
def AnswerResult.code : AnswerResult → Nat
  | .accepted => 0x00
  | .granted => 0x01
  | .released => 0x02
  | .completed => 0x03
  | .sense => 0x04
  | .invalid => 0x10
  | .noDrive => 0x11
  | .portLimit => 0x12
  | .queueFull => 0x13
  | .duplicateTag => 0x14
  | .reservedElsewhere => 0x15
  | .notHolder => 0x16
  | .notPermitted => 0x17
  | .resetting => 0x18

/-- The code of an outcome. -/
def Outcome.code : Outcome → Nat
  | .normal => 0
  | .recovered => 1
  | .check => 2
  | .withdrawn => 3
  | .notReady => 4

/-- The kind code of a drive request. -/
def kindCodeOf : RequestKind → Nat
  | .readBlocks => 1
  | .writeBlocks => 2
  | .spareTrack => 3

/-- The conditions field (11.4). -/
def conditionsNat (l : List Condition) : Nat := bitsNat ((List.range 14).map fun i => l.any fun c => c.bit = i)

/-- The code of a drive state (11.6). -/
def DriveState.code : DriveState → Nat
  | .offline => 0
  | .loadingMap => 1
  | .idle => 2
  | .seeking => 3
  | .orienting => 4
  | .connected => 5
  | .recalibrating => 6
  | .sparing => 7
  | .faulted => 8

/-- The code of a map state (11.6). -/
def MapState.code : MapState → Nat
  | .none => 0
  | .loaded => 1
  | .degraded => 2

/-- The code of a reservation holder (11.6). -/
def holderCode : Option Port → Nat
  | none => 0
  | some .A => 1
  | some .B => 2
  | some .C => 3
  | some .D => 4

/-- The number of a sparing step (11.6). -/
def OrderStep.code : OrderStep → Nat
  | .s1 => 1
  | .s2 => 2
  | .s3 => 3
  | .s4 => 4
  | .s5 => 5
  | .s6 => 6
  | .s7 => 7
  | .notStarted => 0
  | .running => 0

/-! ## The messages the unit sends (11.3–11.6) -/

/-- An Answer (11.3). -/
def answerBytes (kindCode tag : Nat) (r : AnswerResult) : List Byte :=
  [0x01#8, lowByte (kindCode * 16), lowByte tag, lowByte r.code]

/-- A completion record (11.4). -/
def recordBytes (r : CompletionRecord) : List Byte :=
  [0x02#8, lowByte r.tag, lowByte (kindCodeOf r.kind * 16 + r.drive.val), lowByte r.outcome.code] ++
    twoBytes (conditionsNat r.conditions) ++
    [lowByte r.transferred, lowByte r.retries, lowByte r.revsLost, lowByte r.relocated]

/-- Recommended track `i` of the sense record, 0 when there is none (11.6). -/
def recommendedField (r : SenseRecord) (i : Nat) : List Byte := twoBytes (r.recommended[i]?.getD 0)

/-- The presence bits and the recommended count: byte 7 of the sense record (11.6). -/
def presenceByte (r : SenseRecord) : Byte :=
  lowByte (bitsNat [r.lastCheck.isSome, r.sparing.isSome, r.originalUnmarked.isSome] + 16 * r.recommended.length)

/-- The last check field: bytes 8 to 12 of the sense record (11.6). -/
def lastCheckBytes : Option LastCheck → List Byte
  | some c => twoBytes (conditionsNat c.conditions) ++ twoBytes c.track.cyl ++ [lowByte c.track.head]
  | none => [0#8, 0#8, 0#8, 0#8, 0#8]

/-- The sparing in flight: bytes 21 to 23 of the sense record (11.6). -/
def sparingBytes : Option (Nat × OrderStep) → List Byte
  | some (n, step) => twoBytes n ++ [lowByte step.code]
  | none => [0#8, 0#8, 0#8]

/-- The sense record (11.6). -/
def senseBytes (r : SenseRecord) : List Byte :=
  [lowByte (r.state.code * 16 + r.mapState.code), lowByte r.used, lowByte r.retired, lowByte r.free,
    lowByte (holderCode r.holder)] ++
  twoBytes r.cylinder ++ [presenceByte r] ++ lastCheckBytes r.lastCheck ++
  recommendedField r 0 ++ recommendedField r 1 ++ recommendedField r 2 ++ recommendedField r 3 ++
  sparingBytes r.sparing ++ twoBytes (r.originalUnmarked.getD 0)

/-- The drives of a set as the bits of a byte (11.5). -/
def drivesNat (v : Vector Bool 8) : Nat := bitsNat v.toList

/-- A message of the unit as it passes over the link. -/
def messageBytes : Message → List Byte
  | .answer k tag r => answerBytes k tag r
  | .senseAnswer tag r => answerBytes 8 tag .sense ++ senseBytes r
  | .record r => recordBytes r
  | .attention v => [0x03#8, lowByte (drivesNat v)]
  | .nothingPending => [0x04#8]

end Sys2Proof.Machine
end

