-- ==== Sys2Proof/Safety.lean ====
section
/-! DEFINITION. What holds of a safe state of the unit: the bounds the manual gives its collections, and the form of the
media. -/

namespace Sys2Proof.Machine

/-- The bounds of R1, R53, R73, R121 and R159, the link that R81 keeps in EXCHANGE, replies on links in EXCHANGE alone
(R64), and the canonical form of the media. -/
structure Safe (s : State) : Prop where
  media : mediaCanonical s.media = true
  angle : ∀ d, (s.drive d).angle < 96
  queue : s.queue.length ≤ 32
  bypass : ∀ e ∈ s.queue, e.bypass ≤ 8
  orders : s.orders.length ≤ 8
  ring : s.dataPath.ring.length ≤ 24
  awaits : ∀ p, s.awaitsReset p = true → (s.port p).link = .exchange
  reply : ∀ p, (s.port p).reply ≠ none → (s.port p).link = .exchange

/-- The two drive records agree in the items that the straps set (R185). -/
def SameDriveStraps (a b : DriveRecord) : Prop := a.installed = b.installed ∧ a.autoSparing = b.autoSparing

/-- The two Port Units agree in the items that the straps set (R185). -/
def SamePortStraps (a b : PortUnit) : Prop := a.linkClass = b.linkClass ∧ a.maintenance = b.maintenance

/-- The two states agree in every item that the straps set (R185). -/
def SameStraps (s t : State) : Prop :=
  (∀ d, SameDriveStraps (s.drive d) (t.drive d)) ∧ ∀ p, SamePortStraps (s.port p) (t.port p)

/-- Every reservation holder is the same (R86). -/
def SameHolders (s t : State) : Prop := ∀ d, (s.drive d).holder = (t.drive d).holder

/-- The link of the port is free, no host exchange waits on it, no Answer of a string reset is owed on it, and it carries
no reply (R63, R64, R81). -/
def LinkFree (s : State) (p : Port) : Prop :=
  (s.port p).link = .idle ∧ (s.port p).waiting = none ∧ s.awaitsReset p = false ∧ (s.port p).reply = none

/-- How the reply `m` to an exchange on a free link stands as the step ends (R64, R65; assumption 19): given, with the link
IDLE; or still carried by the link in EXCHANGE, and not given yet. -/
def State.replying (s : State) (p : Port) (m : Message) (lingers : Bool) : State :=
  if lingers then s.onPort p fun u => { u with link := .exchange, reply := some m }
  else s.emit (.message p m)

/-- No SPARE order is in steps S4 to S6, so no image service can be dispatched (R136). -/
def NoImageOrder (s : State) : Prop := ∀ o ∈ s.orders, o.step ≠ .s4 ∧ o.step ≠ .s5 ∧ o.step ≠ .s6

/-- Nothing waits for drive `d`: no order, no request, no work, no package, no map operation (R41). -/
structure NoWork (s : State) (d : DriveNo) : Prop where
  orders : ∀ o ∈ s.orders, o.drive ≠ d
  queue : ∀ e ∈ s.queue, e.request.drive ≠ d
  work : s.work d = none
  slot : s.slot (driveSlot d) = none
  buffer : s.mapBuffer.owner.any (fun o => o.drive = d) = false
  waiting : ∀ o ∈ s.mapBuffer.waiting, o.drive ≠ d

/-- The connected context, if there is one, is another drive's, and no work of drive `d` has an end to be taken. -/
def AwayFromPath (s : State) (d : DriveNo) : Prop :=
  (∀ a, s.active = some a → a.drive ≠ d) ∧ ∀ w, s.work d = some w → w.result = none

/-- The commands that reach the unit neither from a host's exchange nor as power-on reset, and that do not complete a
string reset: port reset, the events of the drives and of the limits, and the unit's own steps. -/
def isEventOrStep : Instr → Bool
  | .powerOnReset _ => false
  | .portReset _ => true
  | .readBlocks _ _ _ => false
  | .writeBlocks _ _ _ => false
  | .spareTrack _ _ _ => false
  | .senseDrive _ _ _ _ => false
  | .reserveDrive _ _ _ _ => false
  | .releaseDrive _ _ _ _ => false
  | .resetString _ _ _ => false
  | .unknownKindRequest _ _ _ _ => false
  | .collect _ _ => false
  | .waitingHostExchangeTaken _ => false
  | .readyRising _ => true
  | .readyFalling _ => true
  | .positioned _ _ => true
  | .positionFault _ => true
  | .writeFault _ => true
  | .sectorMark _ _ => true
  | .indexMark _ _ => true
  | .seekTimeout _ => true
  | .recalibrationTimeout _ => true
  | .windowExpiry _ => true
  | .linkTimeout => true
  | .imageServiceStall => true
  | .arbiterGrant => true
  | .exchangeOut => true
  | .mapBufferTaken => true
  | .mapLoadEnd _ => true
  | .mapWriteEnd _ => true
  | .sparingReadEnd _ => true
  | .sparingWriteVerifyEnd _ => true
  | .sparingMarkEnd _ => true
  | .stringResetComplete => false

end Sys2Proof.Machine
end

