-- ==== Sys2Proof/WellFormed.lean ====
section
/-! DEFINITION. Which commands the links and the drive bus can carry: every operand within its field. -/

namespace Sys2Proof

/-- The fields of a drive request fit the request message (11.2). -/
def DriveRequest.wellFormed (m : DriveRequest) : Bool :=
  decide (m.tag < 64) && decide (m.cyl < 1024) && decide (m.head < 16) &&
    decide (m.firstBlock < 32) && decide (m.count < 128)

/-- A kind code of 11.2 that the unit does not know: 0, 4–7, B–E. -/
def unknownKindCode (k : Nat) : Bool :=
  decide (k < 16) && !([1, 2, 3, 8, 9, 10, 15].contains k)

/-- An identity field's items are within the values of 1.1.1. -/
def IdField.wellFormed (f : IdField) : Bool :=
  decide (f.cyl < 656) && decide (f.head < 12) && decide (f.block < 24) &&
    (match f.link with
     | none => true
     | some l => decide (l.cyl < 656) && decide (l.head < 12))

/-- What a mark brings in is within the values the media can carry. -/
def MarkInput.wellFormed (x : MarkInput) : Bool :=
  match x.field with
  | none => true
  | some r => r.field.wellFormed

/-- The operands of a command are within their fields. -/
def Instr.wellFormed : Instr → Bool
  | .powerOnReset _ => true
  | .portReset _ => true
  | .readBlocks _ m _ => m.wellFormed
  | .writeBlocks _ m _ => m.wellFormed
  | .spareTrack _ m _ => m.wellFormed
  | .senseDrive _ tag _ _ => decide (tag < 64)
  | .reserveDrive _ tag _ _ => decide (tag < 64)
  | .releaseDrive _ tag _ _ => decide (tag < 64)
  | .resetString _ tag _ => decide (tag < 64)
  | .unknownKindRequest _ k tag _ => unknownKindCode k && decide (tag < 64)
  | .collect _ _ => true
  | .waitingHostExchangeTaken _ => true
  | .readyRising _ => true
  | .readyFalling _ => true
  | .positioned _ c => decide (c < 656)
  | .positionFault _ => true
  | .writeFault _ => true
  | .sectorMark _ x => x.wellFormed
  | .indexMark _ x => x.wellFormed
  | .seekTimeout _ => true
  | .recalibrationTimeout _ => true
  | .windowExpiry _ => true
  | .linkTimeout => true
  | .imageServiceStall => true
  | .arbiterGrant => true
  | .exchangeOut => true
  | .mapBufferTaken => true
  | .mapLoadEnd _ => true
  | .mapWriteEnd _ => true
  | .sparingReadEnd _ => true
  | .sparingWriteVerifyEnd _ => true
  | .sparingMarkEnd _ => true
  | .stringResetComplete => true

end Sys2Proof
end

