-- ==== Sys2Proof/Certificates/Slice0/Obligations.lean ====
section
/-! DEFINITION. The statements about the unit, for the provers: what each command does, and what holds of every step. -/

open Sys2Proof Sys2Proof.Machine

/-! ## The step -/

/-- The block's own rule: a step takes the command at the front of the queue and runs it on the rest of the queue. -/
def Obligations.StepTakesFrontCommand : Prop :=
  ∀ (c : Instr) (rest : List Instr) (s : State),
    step { s with pending := c :: rest } = exec c { s with pending := rest }

/-- No command faults and none is refused, in any state (the manual gives the unit no fault that stops it). -/
def Obligations.EveryCommandAnswersNext : Prop :=
  ∀ (c : Instr) (s : State), ∃ t, exec c s = .next t

/-- The model's own (assumptions 1 and 19): on an empty queue every reply that a link is still carrying is given, in the
order of the ports, and its link is IDLE again (R64, R65); nothing else changes. A link that awaits the Answer of a string
reset stays in EXCHANGE. -/
def Obligations.EmptyQueueEndsAnsweredExchanges : Prop :=
  ∀ s : State, s.pending = [] →
    let answered (p : Port) : Bool := decide ((s.port p).link = .exchange) && !s.awaitsReset p
    ∃ t, step s = .next t ∧ t = { s with ports := t.ports, out := t.out } ∧
      (∀ p, t.port p = if answered p then { s.port p with link := .idle, reply := none } else s.port p) ∧
      t.out =
        if [Port.A, .B, .C, .D].any answered then
          ([Port.A, .B, .C, .D].filter answered).filterMap fun p => (s.port p).reply.map (.message p)
        else s.out

/-- Every step keeps the bounds of R1, R53, R73, R121 and R159, the reply on a link in EXCHANGE alone, and the canonical
form of the media, from every state that meets them. -/
def Obligations.EveryStepKeepsSafe : Prop :=
  ∀ s t : State, Safe s → step s = .next t → Safe t

/-- The reset state meets them. -/
def Obligations.ResetStateIsSafe : Prop := Safe State.reset

/-- R185: only power-on reset changes an item that a strap sets. -/
def Obligations.OnlyPowerOnResetChangesStraps : Prop :=
  ∀ (c : Instr) (s t : State), (∀ b, c ≠ .powerOnReset b) → exec c s = .next t → SameStraps s t

/-- R98: no drive event, no limit, no internal step and no port reset changes a reservation holder. Host exchanges, and
the completion of a string reset, may. -/
def Obligations.ReservationsOutlastEventsAndPortReset : Prop :=
  ∀ (c : Instr) (s t : State), isEventOrStep c = true → exec c s = .next t → SameHolders s t

/-- R15, R1, R58: the angular position of a drive moves only at a mark of that drive, or at power-on reset. -/
def Obligations.AnglesMoveOnlyAtMarks : Prop :=
  ∀ (c : Instr) (s t : State) (d : DriveNo), (∀ b, c ≠ .powerOnReset b) → (∀ x, c ≠ .sectorMark d x) →
    (∀ x, c ≠ .indexMark d x) → exec c s = .next t → (t.drive d).angle = (s.drive d).angle

/-! ## Power-on reset -/

/-- R5, R56: every drive record and every window arming after power-on reset. The last four items are the model's own
(log entries 13 and 21). -/
def Obligations.PowerOnResetSetsDriveRecords : Prop :=
  ∀ (b : Straps) (s : State), ∃ t, exec (.powerOnReset b) s = .next t ∧ ∀ d : DriveNo,
    (t.window d).state = .disarmed ∧
    t.drive d =
      { installed := b.installed[d], autoSparing := b.autoSparing[d], state := .offline, cylinder := 0, head := 0,
        angle := 0, rotationKnown := false, offset := .none, holder := none, mapState := .none, dispatched := none,
        target := none, timer := .stopped, recalCount := 0, mismatch := none, deferred := false, orphaned := false,
        boundaryMissed := false, loadAwaits := .stopped }

/-- R62: every Port Unit after power-on reset. That no reply is being carried is the model's own item (log entries 19 and
21). -/
def Obligations.PowerOnResetSetsPortUnits : Prop :=
  ∀ (b : Straps) (s : State), ∃ t, exec (.powerOnReset b) s = .next t ∧ ∀ p : Port,
    t.port p =
      { link := .idle, reply := none, waiting := none, outstanding := 0, holdLine := false, status := [],
        attention := Vector.replicate 8 false, statusPending := false, linkClass := b.linkClass[portIndex p],
        maintenance := b.maintenance[portIndex p] }

/-- R99, R100, R113, R120, R24, R29, R3, R169, R182, R159, R164, R154: the rest of the unit after power-on reset; with
no context connected the media are as they were. The queue of commands is not the unit's and stays. Values the manual
does not state are the model's choice (log entry 21). -/
def Obligations.PowerOnResetEmptiesTheUnit : Prop :=
  ∀ (b : Straps) (s : State), ∃ t, exec (.powerOnReset b) s = .next t ∧
    t.queue = [] ∧ t.stringReset = none ∧ (∀ i, t.slot i = none) ∧ t.active = none ∧
    t.arbiter = ⟨none, Vector.replicate 9 false, 8, none⟩ ∧
    (t.dataPath.ring = [] ∧ t.dataPath.disk = .halted ∧ t.dataPath.port = .idle ∧ t.dataPath.portBlock = none ∧
      t.dataPath.pacing = 0 ∧ t.dataPath.stopped = none ∧ t.dataPath.step = 0) ∧
    (∀ d, t.work d = none ∧ t.map d = ⟨[], [], false, [], [], none, none⟩) ∧
    (t.mapBuffer.owner = none ∧ t.mapBuffer.waiting = []) ∧ t.orders = [] ∧ t.awaiting = [] ∧ t.results = [] ∧
    (t.image.owner = .none ∧ t.image.tags = Vector.replicate 24 .empty) ∧ t.history = [] ∧ t.pending = s.pending ∧
    (s.active = none → t.media = s.media)

/-! ## Admission -/

/-- R68: the refusal of each kind of Request, check by check in the order of the table. -/
def Obligations.AdmissionChecksInOrder : Prop :=
  ∀ (s : State) (p : Port) (k : RequestKind) (m : DriveRequest) (tag code : Nat) (d : DriveNo),
    s.refusal p (.drive k m) =
      (if s.stringReset.isSome then some .resetting
       else if k = .spareTrack ∧ (s.port p).maintenance = false then some .notPermitted
       else if (s.drive m.drive).installed = false then some .noDrive
       else if (s.drive m.drive).holder ≠ none ∧ (s.drive m.drive).holder ≠ some p then some .reservedElsewhere
       else if (∃ e ∈ s.queue, e.port = p ∧ e.request.tag = m.tag) ∨ (∃ r ∈ (s.port p).status, r.tag = m.tag)
         then some .duplicateTag
       else if 12 ≤ (s.port p).outstanding then some .portLimit
       else if 32 ≤ s.queue.length then some .queueFull
       else none) ∧
    s.refusal p (.unknown code tag) = (if s.stringReset.isSome then some .resetting else some .invalid) ∧
    s.refusal p (.resetString tag) =
      (if s.stringReset.isSome then some .resetting
       else if (s.port p).maintenance = false then some .notPermitted else none) ∧
    s.refusal p (.sense tag d) =
      (if s.stringReset.isSome then some .resetting
       else if (s.drive d).installed = false then some .noDrive else none) ∧
    s.refusal p (.release tag d) =
      (if s.stringReset.isSome then some .resetting
       else if (s.drive d).installed = false then some .noDrive else none) ∧
    s.refusal p (.reserve tag d) =
      (if s.stringReset.isSome then some .resetting
       else if (s.drive d).installed = false then some .noDrive
       else if (s.drive d).holder ≠ none ∧ (s.drive d).holder ≠ some p then some .reservedElsewhere else none)

/-- R68, R82, R64: a refused Request of any kind has its Answer and changes nothing else of the unit, but for the link
while the reply lasts. The duration of the reply is the model's choice (log entry 19). -/
def Obligations.RefusalChangesNothing : Prop :=
  ∀ (s : State) (p : Port) (m : DriveRequest) (tag code : Nat) (d : DriveNo) (lingers : Bool)
    (r : AnswerResult), s.followUps = [] → LinkFree s p →
    let t (code tag : Nat) : State :=
      (s.sending []).replying p (.answer code tag r) lingers
    (s.refusal p (.drive .readBlocks m) = some r →
      exec (.readBlocks p m lingers) s = .next (t 1 m.tag)) ∧
    (s.refusal p (.drive .writeBlocks m) = some r →
      exec (.writeBlocks p m lingers) s = .next (t 2 m.tag)) ∧
    (s.refusal p (.drive .spareTrack m) = some r →
      exec (.spareTrack p m lingers) s = .next (t 3 m.tag)) ∧
    (s.refusal p (.sense tag d) = some r →
      exec (.senseDrive p tag d lingers) s = .next (t 8 tag)) ∧
    (s.refusal p (.reserve tag d) = some r →
      exec (.reserveDrive p tag d lingers) s = .next (t 9 tag)) ∧
    (s.refusal p (.release tag d) = some r →
      exec (.releaseDrive p tag d lingers) s = .next (t 10 tag)) ∧
    (s.refusal p (.resetString tag) = some r →
      exec (.resetString p tag lingers) s = .next (t 15 tag)) ∧
    (s.refusal p (.unknown code tag) = some r →
      exec (.unknownKindRequest p code tag lingers) s = .next (t code tag))

/-- R64, R68: a Request of a kind the unit does not know is answered INVALID, with its tag and kind code as presented,
and nothing else changes but the link while the reply lasts. The duration of the reply is the model's choice (log entry
19). -/
def Obligations.UnknownKindAnsweredInvalid : Prop :=
  ∀ (s : State) (p : Port) (code tag : Nat) (lingers : Bool), s.followUps = [] → LinkFree s p → s.stringReset = none →
    exec (.unknownKindRequest p code tag lingers) s =
      .next ((s.sending []).replying p (.answer code tag .invalid) lingers)

/-- R71: which drive requests are out of range. -/
def Obligations.RangeTest : Prop :=
  ∀ m : DriveRequest,
    (outOfRange .readBlocks m = true ↔
      640 ≤ m.cyl ∨ 12 ≤ m.head ∨ 24 ≤ m.firstBlock ∨ m.count = 0 ∨ 97 ≤ m.count ∨
        288 < m.head * 24 + m.firstBlock + m.count) ∧
    (outOfRange .writeBlocks m = true ↔
      640 ≤ m.cyl ∨ 12 ≤ m.head ∨ 24 ≤ m.firstBlock ∨ m.count = 0 ∨ 97 ≤ m.count ∨
        288 < m.head * 24 + m.firstBlock + m.count) ∧
    (outOfRange .spareTrack m = true ↔ 640 ≤ m.cyl ∨ 12 ≤ m.head)

/-! ## Drive requests -/

/-- R70, R74, R75: a READ BLOCKS or WRITE BLOCKS request in range that no check refuses joins the tail of the Request
Queue, unmarked and QUEUED, and is answered ACCEPTED; the outstanding count rises, and Hold with it at 10. The drive is
busy, so no offer follows, the port's entries for it wait, and no image service is at hand. The duration of the reply is
the model's choice (log entry 19). -/
def Obligations.TransferRequestAccepted : Prop :=
  ∀ (s : State) (p : Port) (m : DriveRequest) (lingers : Bool), s.followUps = [] → LinkFree s p →
    s.refusal p (.drive .readBlocks m) = none → outOfRange .readBlocks m = false →
    (s.drive m.drive).state ≠ .offline → (s.drive m.drive).state ≠ .faulted → (s.drive m.drive).state ≠ .idle →
    (∀ t ∈ touchedTracks .readBlocks m, s.trackHeld m.drive (trackNumber t) = false) →
    (∀ e ∈ s.queue, e.port = p → e.mark = none) → (∀ x ∈ s.results, x.ref.port ≠ p) → NoImageOrder s →
    let t (kind : RequestKind) (code : Nat) : State :=
      State.replying
        (State.onPort { s with
          queue := s.queue ++ [⟨p, kind, m, 0, .queued, none, none, none⟩], out := [] } p fun u =>
            { u with
              outstanding := u.outstanding + 1, holdLine := u.holdLine || decide (u.outstanding + 1 = 10) })
        p (.answer code m.tag .accepted) lingers
    exec (.readBlocks p m lingers) s = .next (t .readBlocks 1) ∧
      exec (.writeBlocks p m lingers) s = .next (t .writeBlocks 2)

/-- R70, R71, R79, R80: a READ BLOCKS or WRITE BLOCKS request of a port with no other entry for a drive that is not IDLE
is accepted with a mark, RANGE or NOT-READY, and completes at once: its record joins the Status Queue, the Request Queue
is as before, nothing is sent to the drive. The duration of the reply is the model's choice (log entry 19). -/
def Obligations.MarkedRequestCompletesAtOnce : Prop :=
  ∀ (s : State) (p : Port) (m : DriveRequest) (lingers : Bool), s.followUps = [] → LinkFree s p →
    s.refusal p (.drive .readBlocks m) = none → (∀ e ∈ s.queue, e.port = p → e.request.drive ≠ m.drive) →
    (s.drive m.drive).state ≠ .idle → NoImageOrder s → (∀ x ∈ s.results, x.ref.port ≠ p) →
    let t (kind : RequestKind) (code : Nat) (o : Outcome) (l : List Condition) : State :=
      State.replying
        (State.onPort (s.sending []) p fun u =>
          { u with
            outstanding := u.outstanding + 1
            holdLine := u.holdLine || decide (u.outstanding + 1 = 10)
            status := u.status ++ [⟨m.tag, m.drive, kind, o, l, 0, 0, 0, 0⟩], statusPending := true })
        p (.answer code m.tag .accepted) lingers
    (outOfRange .readBlocks m = true →
      exec (.readBlocks p m lingers) s = .next (t .readBlocks 1 .check [.range]) ∧
      exec (.writeBlocks p m lingers) s = .next (t .writeBlocks 2 .check [.range])) ∧
    (outOfRange .readBlocks m = false →
      ((s.drive m.drive).state = .offline ∨ (s.drive m.drive).state = .faulted) →
      exec (.readBlocks p m lingers) s = .next (t .readBlocks 1 .notReady []) ∧
      exec (.writeBlocks p m lingers) s = .next (t .writeBlocks 2 .notReady []))

/-- R52, R54, R8: a read accepted for an IDLE drive with nothing waiting is dispatched at once. HEAD SELECT goes to the
head of its track; the drive seeks to the track's cylinder, or is ORIENTING when the arm stands there. Its package is in
the drive's slot, its entry DISPATCHED. -/
def Obligations.RequestForIdleDriveDispatched : Prop :=
  ∀ (s : State) (p : Port) (m : DriveRequest), s.followUps = [] → LinkFree s p → s.queue = [] → s.orders = [] →
    s.results = [] → s.refusal p (.drive .readBlocks m) = none → outOfRange .readBlocks m = false →
    (s.drive m.drive).state = .idle → (s.drive m.drive).dispatched = none → (s.drive m.drive).rotationKnown = true →
    (s.map m.drive).table = [] →
    ∃ t, exec (.readBlocks p m false) s = .next t ∧
      t = { s with
        drives := t.drives, windows := t.windows, ports := t.ports, queue := t.queue, slots := t.slots
        arbiter := t.arbiter, out := t.out } ∧
      (∀ q, t.port q =
        if q = p then
          { s.port p with
            outstanding := (s.port p).outstanding + 1
            holdLine := (s.port p).holdLine || decide ((s.port p).outstanding + 1 = 10) }
        else s.port q) ∧
      (∀ i, i ≠ driveSlot m.drive → t.slot i = s.slot i) ∧
      (∀ j, j ≠ m.drive → t.drive j = s.drive j ∧ t.window j = s.window j) ∧
      t.queue = [⟨p, .readBlocks, m, 0, .dispatched, none, some (driveSlot m.drive), none⟩] ∧
      (∃ k, t.slot (driveSlot m.drive) = some k ∧ k.request = ⟨p, m.tag⟩ ∧ k.physical = some ⟨m.cyl, m.head⟩ ∧
        k.nextBlock = m.firstBlock ∧ k.baseCount = m.count ∧ k.count = m.count ∧ k.transferred = 0 ∧
        k.retryStep = 0 ∧ k.conditions = [] ∧ k.flags = m.flags) ∧
      (t.drive m.drive).dispatched = some ⟨p, m.tag⟩ ∧ (t.drive m.drive).head = m.head ∧
      (t.drive m.drive).recalCount = 0 ∧ (t.drive m.drive).mismatch = none ∧
      (m.cyl ≠ (s.drive m.drive).cylinder →
        (t.drive m.drive).state = .seeking ∧ (t.drive m.drive).target = some m.cyl ∧
        (t.drive m.drive).timer = .ms120 ∧ t.windows = s.windows ∧ t.arbiter = s.arbiter ∧
        t.out = [.message p (.answer 1 m.tag .accepted), .bus m.drive (.headSelect m.head),
          .bus m.drive (.seek m.cyl)]) ∧
      (m.cyl = (s.drive m.drive).cylinder →
        (t.drive m.drive).state = .orienting ∧ (t.window m.drive).block = m.firstBlock ∧
        (t.window m.drive).sector = (4 * m.firstBlock + 94) % 96 ∧ (t.window m.drive).state ≠ .disarmed ∧
        t.out = [.message p (.answer 1 m.tag .accepted), .bus m.drive (.headSelect m.head)])

/-- R161 (case 5), R72: a SPARE TRACK request in range that no check refuses, for a busy drive whose map is not DEGRADED
and has no order for the track, places a REQUEST order at the tail of a Sparing Queue with room, and its entry refers to
it. The duration of the reply is the model's choice (log entry 19). -/
def Obligations.SpareTrackPlacesRequestOrder : Prop :=
  ∀ (s : State) (p : Port) (m : DriveRequest) (lingers : Bool), s.followUps = [] → LinkFree s p →
    s.refusal p (.drive .spareTrack m) = none → outOfRange .spareTrack m = false →
    (s.drive m.drive).state ≠ .offline → (s.drive m.drive).state ≠ .faulted → (s.drive m.drive).state ≠ .idle →
    (s.drive m.drive).mapState ≠ .degraded → trackNumber ⟨m.cyl, m.head⟩ ∉ (s.map m.drive).unplaced →
    (∀ o ∈ s.orders, o.drive = m.drive → o.track ≠ some (trackNumber ⟨m.cyl, m.head⟩)) → s.orders.length < 8 →
    (∀ e ∈ s.queue, e.port = p → e.mark = none) → (∀ x ∈ s.results, x.ref.port ≠ p) → NoImageOrder s →
    exec (.spareTrack p m lingers) s = .next
      (State.replying
        (State.onPort { s with
          queue := s.queue ++
            [⟨p, .spareTrack, m, 0, .queued, none, none, some (trackNumber ⟨m.cyl, m.head⟩)⟩]
          orders := s.orders ++
            [⟨.spare (trackNumber ⟨m.cyl, m.head⟩) .request, m.drive, some ⟨p, m.tag⟩, .notStarted, none, none, 0, false⟩]
          out := [] } p fun u =>
            { u with
              outstanding := u.outstanding + 1, holdLine := u.holdLine || decide (u.outstanding + 1 = 10) })
        p (.answer 3 m.tag .accepted) lingers)

/-! ## Immediate requests and Collect -/

/-- R64, R92, R183, R23: SENSE DRIVE is answered with the drive's standing, whatever its state and holder, and changes
no item of the unit. The duration of the reply is the model's choice (log entry 19). -/
def Obligations.SenseDriveAnswersSnapshot : Prop :=
  ∀ (s : State) (p : Port) (tag : Nat) (d : DriveNo) (lingers : Bool), s.followUps = [] → LinkFree s p →
    s.stringReset = none → (s.drive d).installed = true →
    exec (.senseDrive p tag d lingers) s = .next
      ((s.sending []).replying p
        (.senseAnswer tag
          { state := (s.drive d).state
            mapState := (s.drive d).mapState
            used := if (s.drive d).mapState = .none then 0 else (s.map d).table.length
            retired := if (s.drive d).mapState = .none then 0 else (s.map d).retired.length
            free := if (s.drive d).mapState = .none then 0 else
              180 - ((List.range 180).filter fun a =>
                (s.map d).table.any fun e => e.alternate = a || e.former = some a).length - (s.map d).retired.length
            holder := (s.drive d).holder
            cylinder := (s.drive d).cylinder
            lastCheck := (s.map d).lastCheck
            recommended := s.recommendedTracks d
            sparing := match s.orders.find? fun o => o.drive = d && decide (o.step ≠ .notStarted) with
              | some o => (match o.kind with
                | .spare n _ => some (n, o.step)
                | .mapWrite => none)
              | none => none
            originalUnmarked := (s.map d).originalUnmarked })
        lingers)

/-- R184: the recommended tracks of a sense record are the logical owners of the tracks of the drive's RECOMMENDED entries,
none twice, in order of mark place, oldest first; the first four found are reported, and fewer when fewer are found. An
entry whose track has no owner is passed over. -/
def Obligations.RecommendedTracksOfSense : Prop :=
  ∀ (s : State) (d : DriveNo),
    let names (e : HistoryEntry) (n : Nat) : Prop :=
      e ∈ s.history ∧ e.drive = d ∧ e.mark = .recommended ∧ s.owner d e.track = some n
    let before (a b : Nat) : Prop := ∃ e, names e a ∧ ∀ f, names f b → e.place.getD 0 ≤ f.place.getD 0
    (s.recommendedTracks d).length ≤ 4 ∧ (s.recommendedTracks d).Nodup ∧
    (∀ n ∈ s.recommendedTracks d, ∃ e, names e n) ∧
    (s.recommendedTracks d).Pairwise before ∧
    ∀ e n, names e n → n ∈ s.recommendedTracks d ∨
      ((s.recommendedTracks d).length = 4 ∧ ∀ m ∈ s.recommendedTracks d, before m n)

/-- R87: RESERVE DRIVE, for a drive without a holder or held by the port itself, with no entry of another port to
withdraw: the port becomes the holder, the Answer is GRANTED, nothing else changes. The duration of the reply is the
model's choice (log entry 19). -/
def Obligations.ReserveDriveGranted : Prop :=
  ∀ (s : State) (p : Port) (tag : Nat) (d : DriveNo) (lingers : Bool), s.followUps = [] → LinkFree s p →
    s.stringReset = none → (s.drive d).installed = true →
    ((s.drive d).holder = none ∨ (s.drive d).holder = some p) →
    (∀ e ∈ s.queue, e.request.drive = d → e.port = p ∨ e.mark ≠ none ∨ e.status = .dispatched) →
    exec (.reserveDrive p tag d lingers) s = .next
      (State.replying (State.onDrive (s.sending []) d fun r => { r with holder := some p }) p (.answer 9 tag .granted)
        lingers)

/-- R88, R79, R80: a grant to port `p` withdraws the one waiting read or write of another port `q`, QUEUED or HELD: it
leaves the Request Queue with its WITHDRAWN record, in the same step. The drive is busy. -/
def Obligations.GrantWithdrawsOtherPorts : Prop :=
  ∀ (s : State) (p q : Port) (tag : Nat) (d : DriveNo) (e : Entry), s.followUps = [] → LinkFree s p →
    s.stringReset = none → (s.drive d).installed = true → (s.drive d).holder = none → (s.drive d).state ≠ .idle →
    s.queue = [e] → s.results = [] → (∀ o ∈ s.orders, o.requester = none) → NoImageOrder s → e.port = q → q ≠ p →
    e.request.drive = d → e.mark = none → e.kind ≠ .spareTrack → e.status ≠ .dispatched →
    ∃ t, exec (.reserveDrive p tag d false) s = .next t ∧
      t = { s with drives := t.drives, ports := t.ports, queue := [], out := t.out } ∧
      t.out = [.message p (.answer 9 tag .granted)] ∧
      (∀ k, t.drive k = if k = d then { s.drive d with holder := some p } else s.drive k) ∧
      ∀ r, t.port r =
        if r = q then
          { s.port q with
            status := (s.port q).status ++ [⟨e.request.tag, d, e.kind, .withdrawn, [], 0, 0, 0, 0⟩]
            statusPending := true }
        else s.port r

/-- R94, R95: RELEASE DRIVE by the holder clears it and adds the drive to the Attention Set of every port; by any other
port, or with no holder, it is answered NOT-HOLDER and changes nothing. The duration of the reply is the model's choice
(log entry 19). -/
def Obligations.ReleaseDriveAnswered : Prop :=
  ∀ (s : State) (p : Port) (tag : Nat) (d : DriveNo) (lingers : Bool), s.followUps = [] → LinkFree s p →
    s.stringReset = none → (s.drive d).installed = true →
    ((s.drive d).holder ≠ some p →
      exec (.releaseDrive p tag d lingers) s = .next
        ((s.sending []).replying p (.answer 10 tag .notHolder) lingers)) ∧
    ((s.drive d).holder = some p →
      ∃ t, exec (.releaseDrive p tag d lingers) s = .next t ∧
        t = { s with drives := t.drives, ports := t.ports, out := t.out } ∧
        t.out = (if lingers then [] else [.message p (.answer 10 tag .released)]) ∧
        (∀ k, t.drive k = if k = d then { s.drive d with holder := none } else s.drive k) ∧
        ∀ r, t.port r =
          { s.port r with
            attention := (s.port r).attention.set d true, statusPending := true
            link := if r = p ∧ lingers = true then .exchange else (s.port r).link
            reply := if r = p ∧ lingers = true then some (.answer 10 tag .released) else (s.port r).reply })

/-- R81: a RESET STRING from a port with maintenance permitted, every drive at rest and nothing connected or dispatched:
a string reset is in progress, its port stays in EXCHANGE, no Answer is given yet, deferred choices lapse. -/
def Obligations.ResetStringBegins : Prop :=
  ∀ (s : State) (p : Port) (tag : Nat) (lingers : Bool), s.followUps = [] → LinkFree s p → s.stringReset = none →
    (s.port p).maintenance = true → s.active = none → s.slot 8 = none → (∀ o ∈ s.orders, o.step ≠ .s1) →
    (∀ d, (s.drive d).state = .offline ∨ (s.drive d).state = .faulted ∨ (s.drive d).state = .idle ∨
      (s.drive d).state = .loadingMap) →
    ∃ t, exec (.resetString p tag lingers) s = .next t ∧
      t = { s with drives := t.drives, ports := t.ports, stringReset := some ⟨some (p, tag)⟩, out := [] } ∧
      (∀ d, t.drive d = { s.drive d with deferred := false }) ∧
      ∀ r, t.port r = if r = p then { s.port p with link := .exchange } else s.port r

/-- R65, R67, R74, R75: a Collect returns the oldest record, with the count down by 1 and Hold lowered at 6; or the
whole Attention Set, which empties; or NOTHING PENDING. A string reset in progress makes no difference. The duration of
the reply is the model's choice (log entry 19). -/
def Obligations.CollectReplies : Prop :=
  ∀ (s : State) (p : Port) (lingers : Bool), s.followUps = [] → LinkFree s p →
    (∀ r rest, (s.port p).status = r :: rest →
      exec (.collect p lingers) s = .next
        (State.replying
          (State.onPort (s.sending []) p fun u =>
            { u with
              status := rest, outstanding := u.outstanding - 1
              holdLine := u.holdLine && !decide (u.outstanding - 1 = 6)
              statusPending := !rest.isEmpty || decide (u.attention ≠ Vector.replicate 8 false) })
          p (.record r) lingers)) ∧
    ((s.port p).status = [] → (s.port p).attention ≠ Vector.replicate 8 false →
      exec (.collect p lingers) s = .next
        (State.replying
          (State.onPort (s.sending []) p fun u =>
            { u with attention := Vector.replicate 8 false, statusPending := false })
          p (.attention (s.port p).attention) lingers)) ∧
    ((s.port p).status = [] → (s.port p).attention = Vector.replicate 8 false →
      exec (.collect p lingers) s = .next
        ((s.sending []).replying p .nothingPending lingers))

/-- R63: the exchange that waited on a link that has become IDLE is taken as if it were presented then. The duration of
the reply is the model's choice (log entry 19). -/
def Obligations.WaitingExchangeTaken : Prop :=
  ∀ (s : State) (p : Port) (m : DriveRequest) (tag code : Nat) (d : DriveNo) (lingers : Bool), s.followUps = [] →
    LinkFree s p →
    let held (x : HostExchange) : State := s.onPort p fun u => { u with waiting := some ⟨x, lingers⟩ }
    let taken (x : HostExchange) (c : Instr) : Prop :=
      ∃ t, exec (.waitingHostExchangeTaken p) (held x) = .next t ∧ exec c s = .next t
    taken (.drive .readBlocks m) (.readBlocks p m lingers) ∧ taken (.drive .writeBlocks m) (.writeBlocks p m lingers) ∧
    taken (.drive .spareTrack m) (.spareTrack p m lingers) ∧ taken (.sense tag d) (.senseDrive p tag d lingers) ∧
    taken (.reserve tag d) (.reserveDrive p tag d lingers) ∧ taken (.release tag d) (.releaseDrive p tag d lingers) ∧
    taken (.resetString tag) (.resetString p tag lingers) ∧
    taken (.unknown code tag) (.unknownKindRequest p code tag lingers) ∧ taken .collect (.collect p lingers)

/-! ## Port reset -/

/-- R84, R98: a port reset, in every state: the Port Unit holds R84's values and is free for the next exchange, nothing is
sent on its link, a reply it was still carrying is not given, and no entry of the port is left in the Request Queue.
Reservations stand. -/
def Obligations.PortResetSetsPortUnit : Prop :=
  ∀ (s : State) (p : Port), ∃ t, exec (.portReset p) s = .next t ∧
    (t.port p).link = .idle ∧ (t.port p).reply = none ∧ (t.port p).waiting = none ∧ (t.port p).status = [] ∧
    (t.port p).outstanding = 0 ∧ (t.port p).holdLine = false ∧ (∀ d : DriveNo, (t.port p).attention[d] = (s.drive d).installed) ∧
    ((t.port p).statusPending = true ↔ ∃ d, (s.drive d).installed = true) ∧
    (t.port p).linkClass = (s.port p).linkClass ∧ (t.port p).maintenance = (s.port p).maintenance ∧
    (∀ e ∈ t.queue, e.port ≠ p) ∧ SameHolders s t ∧ LinkFree t p ∧
    ∀ o ∈ t.out, (∀ m, o ≠ .message p m) ∧ (∀ n c x, o ≠ .blockToHost p n c x) ∧ ∀ n, o ≠ .askBlock p n

/-! ## Drive events -/

/-- R6: Ready rising at a drive in OFFLINE begins its map load with HEAD SELECT 0 and SEEK 655. At a drive in any other
state, or at a position without a drive, it has no effect. `loadAwaits` is the model's own item (log entry 13). -/
def Obligations.ReadyRisingBeginsMapLoad : Prop :=
  ∀ (s : State) (d : DriveNo), s.followUps = [] →
    ((s.drive d).installed = true → (s.drive d).state = .offline →
      exec (.readyRising d) s = .next
        (State.onDrive (s.sending [.bus d (.headSelect 0), .bus d (.seek 655)]) d fun r =>
          { r with
            state := .loadingMap, head := 0, offset := .none, target := some 655, timer := .ms120, recalCount := 0
            mismatch := none, loadAwaits := .stopped })) ∧
    ((s.drive d).installed = false ∨ (s.drive d).state ≠ .offline →
      exec (.readyRising d) s = .next (s.sending []))

/-- R17, R24, R60: Ready falling at a drive with no work leaves it OFFLINE with its record as R17 sets it, its table
unloaded and its window disarmed. At a drive in OFFLINE it has no effect. -/
def Obligations.ReadyFallingUnloadsDrive : Prop :=
  ∀ (s : State) (d : DriveNo), s.followUps = [] →
    ((s.drive d).installed = false ∨ (s.drive d).state = .offline →
      exec (.readyFalling d) s = .next (s.sending [])) ∧
    ((s.drive d).installed = true → (s.drive d).state ≠ .offline → NoWork s d → AwayFromPath s d →
      (∀ k, s.slot imageSlot = some k → k.drive ≠ d) →
      ∃ t, exec (.readyFalling d) s = .next t ∧
        t = { s with drives := t.drives, windows := t.windows, maps := t.maps, arbiter := t.arbiter, out := [] } ∧
        (∀ k, t.drive k = if k = d then
          { s.drive d with
            state := .offline, rotationKnown := false, offset := .none, mapState := .none, dispatched := none
            target := none, timer := .stopped, recalCount := 0, mismatch := none, deferred := false
            orphaned := false, boundaryMissed := false }
          else s.drive k) ∧
        (∀ k, t.window k = if k = d then { s.window d with state := .disarmed } else s.window k) ∧
        (∀ k, t.map k = if k = d then { s.map d with table := [], retired := [], writeOwed := false, unplaced := [] }
          else s.map k) ∧
        t.arbiter =
          { s.arbiter with
            pendingSet := s.arbiter.pendingSet.set (driveSlot d) false
            holder := if s.arbiter.freeAt = some d then none else s.arbiter.holder
            freeAt := if s.arbiter.freeAt = some d then none else s.arbiter.freeAt })

/-- R17, R106, R177, R178: Ready falling at a drive that is SEEKING or ORIENTING completes its dispatched request
NOT-READY, with the blocks transferred and the counts reached so far; the slot is freed and the drive is OFFLINE. -/
def Obligations.ReadyFallingEndsDispatchedRequest : Prop :=
  ∀ (s : State) (d : DriveNo) (e : Entry) (k : Package), s.followUps = [] → s.stringReset = none → s.active = none →
    (s.drive d).installed = true → (s.drive d).state = .seeking ∨ (s.drive d).state = .orienting →
    (s.drive d).orphaned = false → s.work d = none → s.orders = [] → s.results = [] → s.queue = [e] →
    s.slot (driveSlot d) = some k → s.slot imageSlot = none → k.request = e.ref → k.drive = d →
    ∃ t, exec (.readyFalling d) s = .next t ∧
      t = { s with
        drives := t.drives, windows := t.windows, ports := t.ports, queue := [], slots := t.slots, maps := t.maps
        arbiter := t.arbiter, mapBuffer := t.mapBuffer, out := [] } ∧
      t.drive d =
        { s.drive d with
          state := .offline, rotationKnown := false, offset := .none, mapState := .none, dispatched := none
          target := none, timer := .stopped, recalCount := 0, mismatch := none, deferred := false
          orphaned := false, boundaryMissed := false } ∧
      t.slot (driveSlot d) = none ∧ (∀ i, i ≠ driveSlot d → t.slot i = s.slot i) ∧
      t.window d = { s.window d with state := .disarmed } ∧
      t.map d = { s.map d with table := [], retired := [], writeOwed := false, unplaced := [] } ∧
      (∀ j, j ≠ d → t.drive j = s.drive j ∧ t.window j = s.window j ∧ t.map j = s.map j) ∧
      t.arbiter =
        { s.arbiter with
          pendingSet := s.arbiter.pendingSet.set (driveSlot d) false
          holder := if s.arbiter.freeAt = some d then none else s.arbiter.holder
          freeAt := if s.arbiter.freeAt = some d then none else s.arbiter.freeAt } ∧
      ((∀ o, s.mapBuffer.owner = some o → o.drive ≠ d) → (∀ o ∈ s.mapBuffer.waiting, o.drive ≠ d) →
        t.mapBuffer = s.mapBuffer) ∧
      ∀ q, t.port q =
        if q = e.port then
          { s.port q with
            status := (s.port q).status ++
              [⟨e.request.tag, d, k.kind, .notReady,
                if k.flags.showRecovered then k.conditions else k.conditions.filter fun c => c ≠ .recovered,
                k.transferred, k.retries, k.revsLost, min k.relocated 4⟩]
            statusPending := true }
        else s.port q

/-- R9, R57, R58, R59: Positioned at the target of a SEEKING drive stops the timer, records the cylinder and enters
ORIENTING with the window armed for the context's next block; the window is PENDING at once when rotation is known and it
is a HOLD-PATH window or its sector is the angular position. -/
def Obligations.PositionedArmsWindow : Prop :=
  ∀ (s : State) (d : DriveNo) (c : Nat) (k : Package), s.followUps = [] → (s.drive d).state = .seeking →
    (s.drive d).timer = .ms120 → (s.drive d).target = some c → (s.drive d).orphaned = false →
    (s.drive d).boundaryMissed = false → s.slot (driveSlot d) = some k →
    let lead := if k.kind = .writeBlocks ∧ k.verify = false then
      2 + blockTime (s.port k.request.port).linkClass else 2
    let sector := (4 * k.nextBlock + 96 - lead) % 96
    let opens := (s.drive d).rotationKnown = true ∧ (k.flags.holdPath = true ∨ (s.drive d).angle = sector)
    ∃ t, exec (.positioned d c) s = .next t ∧
      t = { s with drives := t.drives, windows := t.windows, arbiter := t.arbiter, out := [] } ∧
      (∀ j, t.drive j = if j = d then
        { s.drive d with state := .orienting, cylinder := c, target := none, timer := .stopped } else s.drive j) ∧
      (opens → t.window d = ⟨.pending, k.nextBlock, sector, k.flags.holdPath⟩ ∧
        t.arbiter = { s.arbiter with pendingSet := s.arbiter.pendingSet.set (driveSlot d) true }) ∧
      (¬ opens → t.window d = ⟨.waiting, k.nextBlock, sector, k.flags.holdPath⟩ ∧ t.arbiter = s.arbiter) ∧
      ∀ j, j ≠ d → t.window j = s.window j

/-- R11, R9, R14: the first positioning failure of a dispatched request, by the limit, by Position Fault or by an arm at
another cylinder, starts a recalibration. -/
def Obligations.FirstPositioningFailureRecalibrates : Prop :=
  ∀ (s : State) (d : DriveNo) (c : Nat), s.followUps = [] → (s.drive d).state = .seeking →
    (s.drive d).timer = .ms120 → (s.drive d).recalCount = 0 → AwayFromPath s d →
    let t (cyl : Nat) : State :=
      State.onDrive (s.sending [.bus d .recalibrate]) d fun r =>
        { r with
          state := .recalibrating, cylinder := cyl, offset := .none, target := some 0, timer := .ms500
          recalCount := 1 }
    exec (.seekTimeout d) s = .next (t (s.drive d).cylinder) ∧
      exec (.positionFault d) s = .next (t (s.drive d).cylinder) ∧
      ((s.drive d).target ≠ some c → exec (.positioned d c) s = .next (t c))

/-- R11, R13, R106, R177, R182: the second positioning failure faults the drive and completes its request CHECK
POSITION-FAULT with the counts reached so far; the drive's last check names the package's track. -/
def Obligations.SecondPositioningFailureFaults : Prop :=
  ∀ (s : State) (d : DriveNo) (e : Entry) (k : Package) (track : Track), s.followUps = [] → s.stringReset = none →
    s.active = none → (s.drive d).state = .seeking → (s.drive d).timer = .ms120 → (s.drive d).recalCount = 1 →
    (s.drive d).orphaned = false → s.work d = none → s.orders = [] → s.results = [] → s.queue = [e] →
    s.slot (driveSlot d) = some k → s.slot imageSlot = none → k.request = e.ref → k.drive = d →
    k.physical = some track → k.conditions = [] →
    ∃ t, exec (.seekTimeout d) s = .next t ∧ exec (.positionFault d) s = .next t ∧
      t.drive d =
        { s.drive d with
          state := .faulted, timer := .stopped, target := none, offset := .none, dispatched := none
          boundaryMissed := false } ∧
      t = { s with
        drives := t.drives, windows := t.windows, ports := t.ports, queue := [], slots := t.slots, maps := t.maps
        arbiter := t.arbiter, mapBuffer := t.mapBuffer, out := [] } ∧
      t.slot (driveSlot d) = none ∧ (∀ i, i ≠ driveSlot d → t.slot i = s.slot i) ∧
      t.window d = { s.window d with state := .disarmed } ∧
      t.map d = { s.map d with lastCheck := some ⟨[.positionFault], track⟩ } ∧
      (∀ j, j ≠ d → t.drive j = s.drive j ∧ t.window j = s.window j ∧ t.map j = s.map j) ∧
      t.arbiter = { s.arbiter with pendingSet := s.arbiter.pendingSet.set (driveSlot d) false } ∧
      ((∀ o, s.mapBuffer.owner = some o → o.drive ≠ d) → (∀ o ∈ s.mapBuffer.waiting, o.drive ≠ d) →
        t.mapBuffer = s.mapBuffer) ∧
      ∀ q, t.port q =
        if q = e.port then
          { s.port q with
            status := (s.port q).status ++
              [⟨e.request.tag, d, k.kind, .check, [.positionFault], k.transferred, k.retries, k.revsLost,
                min k.relocated 4⟩]
            statusPending := true }
        else s.port q

/-- R12: a recalibration that ends at cylinder 0 issues the SEEK of the dispatched request again; Positioned at another
cylinder is discarded; a Position Fault or the 500 ms limit faults the drive, here one without work. -/
def Obligations.RecalibrationEnds : Prop :=
  ∀ (s : State) (d : DriveNo), s.followUps = [] → (s.drive d).state = .recalibrating → (s.drive d).timer = .ms500 →
    (∀ c, c ≠ 0 → exec (.positioned d c) s = .next (s.sending [])) ∧
    (∀ k track, s.slot (driveSlot d) = some k → k.physical = some track → track.cyl ≠ 0 →
      (s.drive d).orphaned = false → (s.drive d).boundaryMissed = false →
      exec (.positioned d 0) s = .next
        (State.onDrive (s.sending [.bus d (.seek track.cyl)]) d fun r =>
          { r with
            state := .seeking, cylinder := 0, offset := .none, target := some track.cyl, timer := .ms120 })) ∧
    (NoWork s d → AwayFromPath s d →
      ∃ t, exec (.recalibrationTimeout d) s = .next t ∧ exec (.positionFault d) s = .next t ∧
        t = { s with drives := t.drives, windows := t.windows, arbiter := t.arbiter, out := [] } ∧
        (∀ k, t.drive k = if k = d then
          { s.drive d with
            state := .faulted, timer := .stopped, target := none, offset := .none, dispatched := none
            orphaned := false, boundaryMissed := false }
          else s.drive k) ∧
        (∀ k, t.window k = if k = d then { s.window d with state := .disarmed } else s.window k) ∧
        t.arbiter = { s.arbiter with pendingSet := s.arbiter.pendingSet.set (driveSlot d) false })

/-- R14: Position Fault at a drive in IDLE starts a recalibration with no work in hand; in OFFLINE and FAULTED it is not
taken. -/
def Obligations.PositionFaultAtRest : Prop :=
  ∀ (s : State) (d : DriveNo), s.followUps = [] → AwayFromPath s d →
    ((s.drive d).state = .idle →
      exec (.positionFault d) s = .next
        (State.onDrive (s.sending [.bus d .recalibrate]) d fun r =>
          { r with
            state := .recalibrating, offset := .none, target := some 0, timer := .ms500, deferred := false })) ∧
    ((s.drive d).state = .offline ∨ (s.drive d).state = .faulted →
      exec (.positionFault d) s = .next (s.sending []))

/-- R16, R106, R177, R155: Write Fault at a connected host write completes it CHECK WRITE-FAULT and the drive enters IDLE.
The track visit in progress hands the Error History Table a FAILED outcome, here for a track without an entry. No block of
the media changes but the one being written, whose identity field stays unless it was being recorded too; between blocks,
or after a failed identity check, none changes. At a drive whose context is not connected it is not taken. What the fault
leaves in that block is free, and that it is taken between blocks is the model's reading (log entries 6 and 27). -/
def Obligations.WriteFaultEndsHostWrite : Prop :=
  ∀ (s : State) (d : DriveNo), s.followUps = [] →
    (AwayFromPath s d → exec (.writeFault d) s = .next (s.sending [])) ∧
    ∀ (a : Active) (p : Package) (e : Entry), s.active = some a → a.drive = d → a.conn = .host p (driveSlot d) →
      a.leaving = none → a.abandoned = false → p.drive = d → p.kind = .writeBlocks → p.verify = false →
      p.conditions = [] → s.dataPath.pacing < 16 → (s.drive d).rotationKnown = true →
      s.stringReset = none → s.work d = none → s.queue = [e] → e.ref = p.request → s.orders = [] → s.results = [] →
      s.slot imageSlot = none → (s.port e.port).link = .data → s.history.length < 32 →
      (∀ v, p.visitTrack = some v →
        (∃ n, s.owner d v = some n) ∧ ∀ x ∈ s.history, x.drive = d → x.track ≠ v) →
      ∃ t, exec (.writeFault d) s = .next t ∧
        t = { s with
          drives := t.drives, ports := t.ports, queue := [], slots := t.slots, active := none, arbiter := t.arbiter
          dataPath := t.dataPath, maps := t.maps, media := t.media, out := t.out, freeIndex := t.freeIndex
          history := match p.visitTrack with
            | some v => ⟨d, v, [.failed], .none, none, none⟩ :: s.history
            | none => s.history } ∧
        t.dataPath.ring = [] ∧ t.arbiter = { s.arbiter with freeAt := some d } ∧
        t.slot (driveSlot d) = none ∧ (∀ i, i ≠ driveSlot d → t.slot i = s.slot i) ∧
        (∀ track, a.diskPhysical = some track → (t.map d).lastCheck = some ⟨[.writeFault], track⟩) ∧
        (t.map d).table = (s.map d).table ∧ (t.map d).retired = (s.map d).retired ∧
        (a.rewrite = none → (t.map d).inDoubt = (s.map d).inDoubt) ∧
        (∀ track f, a.diskPhysical = some track → a.rewrite = some f → a.blockMarks ≠ none →
          ⟨track, a.diskBlock⟩ ∈ (t.map d).inDoubt) ∧
        (∀ j, j ≠ d → t.map j = s.map j) ∧
        t.drive d =
          { s.drive d with
            state := .idle, offset := .none, dispatched := none, recalCount := 0, mismatch := none
            orphaned := false, boundaryMissed := false } ∧
        (∀ j, j ≠ d → t.drive j = s.drive j) ∧
        (∀ q, t.port q =
          if q = e.port then
            { s.port q with
              link := .idle
              status := (s.port q).status ++
                [⟨e.request.tag, d, .writeBlocks, .check, [.writeFault], p.transferred, p.retries, p.revsLost,
                  min p.relocated 4⟩]
              statusPending := true }
          else s.port q) ∧
        (a.blockMarks = none ∨ a.fieldFailed = true → t.media = s.media ∧ t.freeIndex = s.freeIndex) ∧
        (∀ k, (∀ track, a.diskPhysical = some track → k ≠ mediaKey d track a.diskBlock) →
          mediaRead t.media k = mediaRead s.media k) ∧
        (mediaCanonical s.media = true → a.rewrite = none →
          ∀ k, (mediaRead t.media k).field = (mediaRead s.media k).field)

/-- R16, R169: Write Fault at connected work that records (a map write's first pass, S4's write pass, S5) takes that write
as failed; the drive stays in its state. No block of the media changes but the one being written, and its identity field
stays in a map write and in S5; between blocks, or after a failed identity check, none changes. What the fault leaves in
that block is free, and that it is taken between blocks is the model's reading (log entries 6 and 27). -/
def Obligations.WriteFaultFailsRecordingWork : Prop :=
  ∀ (s : State) (d : DriveNo) (a : Active) (w v : Work), s.followUps = [] → s.active = some a → a.drive = d →
    a.conn = .work w → a.leaving = none → s.dataPath.pacing < 16 → s.work d = some v → v.result = none →
    w.kind = .mapWrite ∨ w.kind = .sparingWrite ∨ w.kind = .sparingMark →
    ∃ t, exec (.writeFault d) s = .next t ∧
      t = { s with
        drives := t.drives, works := t.works, active := none, dataPath := t.dataPath, arbiter := t.arbiter
        media := t.media, out := t.out, freeIndex := t.freeIndex } ∧
      t.work d = some { w with result := some .failed } ∧ (∀ j, j ≠ d → t.work j = s.work j) ∧
      t.drive d = { s.drive d with offset := .none } ∧ (∀ j, j ≠ d → t.drive j = s.drive j) ∧
      t.arbiter = { s.arbiter with freeAt := some d } ∧
      (a.blockMarks = none ∨ a.fieldFailed = true → t.media = s.media ∧ t.freeIndex = s.freeIndex) ∧
      (∀ k, (∀ track, a.diskPhysical = some track → k ≠ mediaKey d track a.diskBlock) →
        mediaRead t.media k = mediaRead s.media k) ∧
      (mediaCanonical s.media = true → a.rewrite = none ∨ w.kind = .sparingMark →
        ∀ k, (mediaRead t.media k).field = (mediaRead s.media k).field)

/-! ## Marks, windows and the arbiter -/

/-- R1: a sector mark advances the angular position by one, from 95 to 0; an index mark sets it to 0 and rotation known.
Here the drive's window is disarmed, its context is not connected, and nothing waits for the mark. Marks of a position
without a drive are ignored. That an index mark at a known position 0 changes nothing is the model's reading (log entry
3). -/
def Obligations.MarksSetAngle : Prop :=
  ∀ (s : State) (d : DriveNo) (x : MarkInput), s.followUps = [] →
    ((s.drive d).installed = false →
      exec (.sectorMark d x) s = .next (s.sending []) ∧ exec (.indexMark d x) s = .next (s.sending [])) ∧
    ((s.drive d).installed = true → AwayFromPath s d → (s.window d).state = .disarmed → s.arbiter.freeAt ≠ some d →
      exec (.sectorMark d x) s = .next
        (State.onDrive (s.sending []) d fun r =>
          { r with angle := (r.angle + 1) % 96 }) ∧
      ((s.drive d).deferred = false →
        exec (.indexMark d x) s = .next
          (State.onDrive (s.sending []) d fun r => { r with angle := 0, rotationKnown := true })))

/-- R58, R114, R117: a WAITING window opens at the sector mark that makes the angular position its sector; a PENDING
window without hold that is not granted by the next mark, or when its expiry is taken first, returns to WAITING, leaves
the pending set and counts one revolution lost. -/
def Obligations.WindowOpensAndExpires : Prop :=
  ∀ (s : State) (d : DriveNo) (x : MarkInput), s.followUps = [] → (s.drive d).installed = true → AwayFromPath s d →
    s.arbiter.freeAt ≠ some d → (s.window d).hold = false →
    let marked : State := State.onDrive (s.sending []) d fun r => { r with angle := (r.angle + 1) % 96 }
    let expired (u : State) (k : Package) : State :=
      { u with
        windows := u.windows.set d { s.window d with state := .waiting }
        arbiter := { u.arbiter with pendingSet := u.arbiter.pendingSet.set (driveSlot d) false }
        slots := u.slots.set (driveSlot d) (some { k with revsLost := min (k.revsLost + 1) 255 }) }
    ((s.window d).state = .waiting → (s.drive d).rotationKnown = true →
      (((s.drive d).angle + 1) % 96 = (s.window d).sector →
        exec (.sectorMark d x) s = .next
          { marked with
            windows := s.windows.set d { s.window d with state := .pending }
            arbiter := { s.arbiter with pendingSet := s.arbiter.pendingSet.set (driveSlot d) true } }) ∧
      (((s.drive d).angle + 1) % 96 ≠ (s.window d).sector → exec (.sectorMark d x) s = .next marked)) ∧
    ∀ k, (s.window d).state = .pending → s.work d = none → s.slot (driveSlot d) = some k →
      exec (.windowExpiry d) s = .next (expired (s.sending []) k) ∧
      (((s.drive d).angle + 1) % 96 ≠ (s.window d).sector →
        exec (.sectorMark d x) s = .next (expired marked k))

/-- R116, R115: the requester to be granted is pending and unmasked, the path is free, and it comes first in rotating
order after the last-granted pointer; one is granted whenever the path is free and some pending requester is unmasked. -/
def Obligations.GrantFollowsRotation : Prop :=
  ∀ s : State,
    (∀ i, s.nextGrant = some i →
      s.pathFree = true ∧ s.arbiter.pendingSet[i] = true ∧ s.masked i = false ∧
      ∀ j : Fin 9, s.arbiter.pendingSet[j] = true → s.masked j = false →
        (i.val + 8 - s.arbiter.lastGranted.val) % 9 ≤ (j.val + 8 - s.arbiter.lastGranted.val) % 9) ∧
    (s.pathFree = true → (∃ j : Fin 9, s.arbiter.pendingSet[j] = true ∧ s.masked j = false) →
      ∃ i, s.nextGrant = some i)

/-- R103, R116, R99, R66: a grant to a drive's requester connects its host context, the drive CONNECTED and the link in
DATA outside a verify pass; or, when the drive has work, its work context, with drive and links as they were. -/
def Obligations.GrantConnectsContext : Prop :=
  ∀ (s : State) (d : DriveNo), s.followUps = [] → s.nextGrant = some (driveSlot d) →
    let granted (t : State) : Prop :=
      (∀ k, t.window k = if k = d then { s.window d with state := .disarmed } else s.window k) ∧
      t.arbiter = ⟨some (driveSlot d), s.arbiter.pendingSet.set (driveSlot d) false, driveSlot d, none⟩ ∧
      t.dataPath.ring = [] ∧ t.dataPath.disk = .active ∧ t.dataPath.port = .idle ∧ t.out = []
    (∀ p, s.work d = none → s.slot (driveSlot d) = some p → p.drive = d →
      ∃ t a, exec .arbiterGrant s = .next t ∧ granted t ∧ t.active = some a ∧
        t = { s with
          drives := t.drives, windows := t.windows, ports := t.ports, active := t.active, arbiter := t.arbiter
          dataPath := t.dataPath, out := [] } ∧
        a.conn = .host p (driveSlot d) ∧ a.drive = d ∧ a.diskLogical = p.logical ∧ a.diskPhysical = p.physical ∧
        a.diskBlock = p.nextBlock ∧ a.grantPeriod = true ∧ a.blockMarks = none ∧
        t.dataPath.step = p.retryStep ∧ t.dataPath.pacing = p.pacing ∧
        (∀ k, t.drive k = if k = d then { s.drive d with state := .connected } else s.drive k) ∧
        ∀ q, t.port q = if q = p.request.port ∧ p.verify = false then { s.port q with link := .data } else s.port q) ∧
    ∀ w, s.work d = some w →
      ∃ t a, exec .arbiterGrant s = .next t ∧ granted t ∧ t.active = some a ∧
        t = { s with
          windows := t.windows, active := t.active, arbiter := t.arbiter, dataPath := t.dataPath, out := [] } ∧
        a.conn = .work w ∧ a.drive = d ∧ a.diskPhysical = some w.track ∧ a.diskBlock = w.nextBlock ∧
        a.grantPeriod = true ∧ t.dataPath.step = w.step ∧ t.dataPath.pacing = 0

/-- R103, R147: at the mark after the grant of a host context, OFFSET goes out for the retry step, NONE for steps 0 to 3:
for a drive's own context after a HEAD SELECT when the head differs; for image service, which has no physical track, alone,
while its drive is neither OFFLINE nor FAULTED (log entry 44). -/
def Obligations.ExchangeInSelectsHeadAndOffset : Prop :=
  ∀ (s : State) (d : DriveNo) (x : MarkInput) (a : Active) (p : Package), s.followUps = [] →
    s.active = some a → a.drive = d → a.phase = .granted → a.leaving = none → p.heldStep = none →
    s.dataPath.pacing < 16 → (s.drive d).installed = true → (s.window d).state = .disarmed →
    s.arbiter.freeAt ≠ some d →
    let step := s.dataPath.step
    let offset : Offset :=
      if step = 4 ∨ step = 6 then .plus else if step = 5 ∨ step = 7 then .minus else .none
    let begins (selects : List Output) (head : Nat) : State :=
      State.onDrive { s with
        active := some { a with phase := .exchangeIn }
        dataPath := { s.dataPath with sinceFinish := s.dataPath.sinceFinish + 1 }
        out := selects ++ [.bus d (.offset offset)] } d fun r =>
          { r with angle := (r.angle + 1) % 96, head := head, offset := offset }
    (∀ track : Track, a.conn = .host p (driveSlot d) → a.diskPhysical = some track → s.work d = none →
      exec (.sectorMark d x) s = .next
        (begins (if (s.drive d).head = track.head then [] else [.bus d (.headSelect track.head)]) track.head)) ∧
    (a.conn = .host p imageSlot → a.diskPhysical = none → s.dataPath.sinceFinish < 96 →
      (∀ w, s.work d = some w → w.result = none) → (s.drive d).state ≠ .offline → (s.drive d).state ≠ .faulted →
      exec (.sectorMark d x) s = .next (begins [] (s.drive d).head))

/-! ## The data path -/

/-- R122, R123, R121, R151: a block that a connected read is to take starts at the mark of its start: with an EMPTY slot
and a good identity field of a NORMAL track, a slot joins the tail of the ring, FILLING, and the disk side is ACTIVE. The
port has nothing to carry, or goes on with the block it carries. That the field comes in with this mark is the model's
reading (log entries 7 and 8); that a FILLING slot shows GOOD is its choice (log entry 41). -/
def Obligations.ReadBlockTakesRingSlot : Prop :=
  ∀ (s : State) (d : DriveNo) (x : MarkInput) (a : Active) (p : Package) (track : Track), s.followUps = [] →
    s.active = some a → a.drive = d → a.conn = .host p (driveSlot d) → a.phase = .ready → a.leaving = none →
    a.abandoned = false → a.blockMarks = none → a.retryDue = false → 0 < a.diskLeft → a.diskPhysical = some track →
    a.diskThroughAlt = false → p.kind = .readBlocks → p.verify = false → p.visitTrack = some track →
    s.dataPath.pacing < 16 → s.dataPath.disk = .active → s.dataPath.ring.length < 24 →
    (s.dataPath.port = .idle → s.dataPath.ring = []) →
    (s.dataPath.port = .carrying →
      s.dataPath.portMarks + 1 < blockTime (s.port p.request.port).linkClass ∨ x.hostReady = false) →
    s.work d = none → (s.drive d).installed = true → (s.drive d).rotationKnown = true →
    ((s.drive d).angle + 1) % 96 = 4 * a.diskBlock → (s.window d).state = .disarmed → s.arbiter.freeAt ≠ some d →
    x.field = none →
    (s.recorded d track a.diskBlock).field =
      ⟨⟨track.cyl, track.head, a.diskBlock, .normal, none, false⟩, .generated⟩ →
    exec (.sectorMark d x) s = .next
      (State.onDrive { s with
        active := some { a with grantPeriod := false, blockMarks := some 0, fieldFailed := false, rewrite := none }
        dataPath := { s.dataPath with
          ring := s.dataPath.ring ++
            [⟨p.request, p.baseCount - a.diskLeft, track, a.diskBlock, .filling, .good, none⟩]
          stopped := none, sinceFinish := s.dataPath.sinceFinish + 1
          portMarks := if s.dataPath.port = .carrying then s.dataPath.portMarks + 1 else s.dataPath.portMarks }
        out := [] } d fun r => { r with angle := (r.angle + 1) % 96 })

/-- R122, R123, R124, R140, R149, R152: the last block of a read ends at the fourth mark with a good block check at step
0: its slot is GOOD with the data, the visit result counts CLEAN, the disk block advances (R104), the disk side is HALTED,
and the port begins carrying the block at the same mark. What comes off the surface is an operand of the mark (log entry
8); that the disk block stays at 23 is the model's choice (log entry 43). -/
def Obligations.ReadBlockEndsGood : Prop :=
  ∀ (s : State) (d : DriveNo) (x : MarkInput) (a : Active) (p : Package) (track : Track) (r : RingSlot) (c : Content),
    s.followUps = [] → s.active = some a → a.drive = d → a.conn = .host p (driveSlot d) → a.phase = .ready →
    a.leaving = none → a.abandoned = false → a.blockMarks = some 3 → a.fieldFailed = false → a.diskLeft = 1 →
    a.diskPhysical = some track → p.kind = .readBlocks → p.verify = false → p.visitTrack = some track →
    p.visitResult = none → p.heldStep = none → s.dataPath.pacing < 16 → s.dataPath.port = .idle →
    s.dataPath.step = 0 → s.dataPath.ring = [r] → r.fill = .filling → s.work d = none →
    (s.drive d).installed = true → (s.drive d).offset = .none → (s.window d).state = .disarmed →
    s.arbiter.freeAt ≠ some d → x.data = none → (s.recorded d track a.diskBlock).data = ⟨c, .generated⟩ →
    exec (.sectorMark d x) s = .next
      (State.onDrive { s with
        active := some { a with
          conn := .host { p with visitResult := some .clean } (driveSlot d)
          diskLeft := 0, blockMarks := none, rewrite := none
          diskBlock := if a.diskBlock = 23 then 23 else a.diskBlock + 1 }
        dataPath := { s.dataPath with
          ring := [{ r with fill := .draining, status := .good, content := some c }]
          disk := .halted, port := .carrying, portBlock := some r.number, portMarks := 0
          sinceFinish := s.dataPath.sinceFinish + 1 }
        out := [] } d fun r => { r with angle := (r.angle + 1) % 96 })

/-- R105, R66, R107, R108, R109, R129, R58: the exchange-out of a host context, a write or a verify pass at once and a read
once its ring has been carried. The package goes back to its slot with the pacing count and the ladder's step, the data
connection ends if one is open, the path is to free at the drive's next mark, the offset returns to NONE. After a pacing
loss or a retry wait, which counts one revolution, the drive is ORIENTING with its window armed for the next block; after a
relocation to another cylinder it seeks the translated track. When no exchange-out is due the command changes nothing (the
model's choice, log entry 2). -/
def Obligations.ExchangeOutRearmsWrite : Prop :=
  ∀ (s : State) (d : DriveNo) (a : Active) (p : Package), s.followUps = [] →
    (s.active = none → exec .exchangeOut s = .next (s.sending [])) ∧
    (s.active = some a → a.drive = d → a.conn = .host p (driveSlot d) → a.abandoned = false →
      (p.kind = .readBlocks → s.dataPath.ring = [] ∧ s.dataPath.port = .idle) → a.diskLeft = p.count →
      s.dataPath.pacing < 16 → (s.drive d).boundaryMissed = false →
      let centred : List Output := if (s.drive d).offset = .none then [] else [.bus d (.offset .none)]
      let back : Package := { p with pacing := s.dataPath.pacing, retryStep := s.dataPath.step }
      let leaves (t : State) : Prop :=
        t = { s with
          drives := t.drives, windows := t.windows, ports := t.ports, slots := t.slots, active := none
          arbiter := t.arbiter, dataPath := t.dataPath, out := t.out } ∧
        (∀ q, t.port q =
          if q = p.request.port ∧ (s.port q).link = .data then { s.port q with link := .idle } else s.port q) ∧
        (∀ i, i ≠ driveSlot d → t.slot i = s.slot i) ∧ t.dataPath.ring = [] ∧ t.dataPath.disk = .halted ∧
        (∀ j, j ≠ d → t.drive j = s.drive j ∧ t.window j = s.window j) ∧
        t.arbiter.holder = s.arbiter.holder ∧ t.arbiter.freeAt = some d
      (a.leaving = some .pacingLoss ∨ a.leaving = some .retryWait →
        let lead := if p.kind = .writeBlocks ∧ p.verify = false then
          2 + blockTime (s.port p.request.port).linkClass else 2
        let sector := (4 * p.nextBlock + 96 - lead) % 96
        ∃ t, exec .exchangeOut s = .next t ∧ leaves t ∧ t.out = centred ∧
          t.slot (driveSlot d) = some { back with
            revsLost := if a.leaving = some .retryWait then min (p.revsLost + 1) 255 else p.revsLost } ∧
          t.drive d = { s.drive d with state := .orienting, offset := .none } ∧
          (t.window d).block = p.nextBlock ∧ (t.window d).sector = sector ∧ (t.window d).hold = p.flags.holdPath ∧
          ((t.window d).state = .pending ↔
            (s.drive d).rotationKnown = true ∧ (p.flags.holdPath = true ∨ (s.drive d).angle = sector)) ∧
          (t.window d).state ≠ .disarmed) ∧
      (∀ track, a.leaving = some .relocation → a.diskPhysical = some track → track.cyl ≠ (s.drive d).cylinder →
        ∃ t, exec .exchangeOut s = .next t ∧ leaves t ∧
          t.out = centred ++ [.bus d (.headSelect track.head), .bus d (.seek track.cyl)] ∧
          t.slot (driveSlot d) = some { back with physical := some track, throughAlt := a.diskThroughAlt } ∧
          t.drive d =
            { s.drive d with
              state := .seeking, head := track.head, offset := .none, target := some track.cyl, timer := .ms120 } ∧
          t.window d = s.window d))

/-- R131, R111, R106, R177: the sixteenth consecutive pacing loss completes the connected request CHECK LINK-TIMEOUT with
the blocks transferred so far; its ring is emptied, its link IDLE, its drive IDLE. That the command changes nothing below
sixteen losses is the model's choice (log entry 2). -/
def Obligations.LinkTimeoutCompletesRequest : Prop :=
  ∀ (s : State) (d : DriveNo) (a : Active) (p : Package) (e : Entry), s.followUps = [] →
    (s.dataPath.pacing < 16 → exec .linkTimeout s = .next (s.sending [])) ∧
    (s.active = some a → a.drive = d → a.conn = .host p (driveSlot d) → a.abandoned = false → p.drive = d →
      p.kind = .writeBlocks → p.conditions = [] → p.visitTrack = none → 16 ≤ s.dataPath.pacing →
      (s.drive d).rotationKnown = true → s.stringReset = none → s.queue = [e] → e.ref = p.request → s.orders = [] →
      s.results = [] → s.slot imageSlot = none → (s.port e.port).link = .data →
      ∃ t, exec .linkTimeout s = .next t ∧
        t = { s with
          drives := t.drives, ports := t.ports, queue := [], slots := t.slots, active := none, arbiter := t.arbiter
          dataPath := t.dataPath, maps := t.maps, out := t.out } ∧
        t.dataPath.ring = [] ∧ t.slot (driveSlot d) = none ∧ t.arbiter = { s.arbiter with freeAt := some d } ∧
        t.drive d =
          { s.drive d with
            state := .idle, offset := .none, dispatched := none, recalCount := 0, mismatch := none
            orphaned := false, boundaryMissed := false } ∧
        (∀ j, j ≠ d → t.drive j = s.drive j) ∧
        ∀ q, t.port q =
          if q = e.port then
            { s.port q with
              link := .idle
              status := (s.port q).status ++
                [⟨e.request.tag, d, .writeBlocks, .check, [.linkTimeout], p.transferred, p.retries, p.revsLost,
                  min p.relocated 4⟩]
              statusPending := true }
          else s.port q)

/-- R138: 96 marks with an image service context connected and no block finished count one pacing loss: revolutions lost
and the pacing count rise by 1, and the count of marks begins again, also when a reset has taken the request away
meanwhile. That the command changes nothing before that is the model's choice (log entry 2). -/
def Obligations.ImageServiceStallCountsLoss : Prop :=
  ∀ (s : State) (a : Active) (p : Package), s.followUps = [] → s.active = some a → a.conn = .host p imageSlot →
    (s.dataPath.sinceFinish < 96 → exec .imageServiceStall s = .next (s.sending [])) ∧
    (96 ≤ s.dataPath.sinceFinish →
      exec .imageServiceStall s = .next
        { s with
          active := some { a with conn := .host { p with revsLost := min (p.revsLost + 1) 255 } imageSlot }
          dataPath :=
            { s.dataPath with
              pacing := min (s.dataPath.pacing + 1) 16, finishedSinceLoss := false, sinceFinish := 0 }
          out := [] })

/-! ## Map operations -/

/-- R29, R31, R102: the map load that has waited longest takes the freed map buffer: it is the owner, its work context is
made for blocks 0 to 3 of 655/0, and the drive's window is armed for sector 94. An owned buffer is not taken. -/
def Obligations.MapBufferTakenByLoad : Prop :=
  ∀ (s : State) (d : DriveNo) (rest : List MapOp), s.followUps = [] →
    (s.mapBuffer.owner ≠ none → exec .mapBufferTaken s = .next (s.sending [])) ∧
    (s.mapBuffer.owner = none → s.mapBuffer.waiting = ⟨d, true⟩ :: rest → ⟨d, true⟩ ∉ rest →
      (s.drive d).unanswered = .stopped →
      ∃ t, exec .mapBufferTaken s = .next t ∧
        t = { s with
          windows := t.windows, works := t.works, arbiter := t.arbiter, out := []
          mapBuffer := ⟨some ⟨d, true⟩, rest, []⟩ } ∧
        t.work d = some ⟨.mapLoad, ⟨655, 0⟩, 0, 4, 0, none, none, none⟩ ∧ (∀ k, k ≠ d → t.work k = s.work k) ∧
        t.window d =
          ⟨if (s.drive d).rotationKnown = true ∧ (s.drive d).angle = 94 then .pending else .waiting, 0, 94, false⟩ ∧
        ∀ k, k ≠ d → t.window k = s.window k)

/-- R31, R32, R33, R7, R30: a map load that has read a valid record without COPYING entries ends LOADED with the table
and retired set of the record; one without a valid record ends DEGRADED with both empty. The drive enters IDLE and joins
every Attention Set, and the map buffer is given up. How a record lies on the four blocks is the model's choice (log
entry 9). -/
def Obligations.MapLoadEnds : Prop :=
  ∀ (s : State) (d : DriveNo) (w : Work) (result : WorkResult) (m : MapRecord), s.followUps = [] →
    s.stringReset = none → s.work d = some w → w.kind = .mapLoad → w.result = some result →
    s.mapBuffer.owner = some ⟨d, true⟩ → (∀ o ∈ s.mapBuffer.waiting, o.drive ≠ d) →
    s.mapBuffer.blocks = [.mapPart m 0, .mapPart m 1, .mapPart m 2, .mapPart m 3] → s.queue = [] → s.orders = [] →
    s.awaiting = [] → s.results = [] → (s.drive d).state = .loadingMap → (s.drive d).rotationKnown = true →
    let ends (map : MapState) (table : List SpareEntry) (retired : List Nat) : Prop :=
      ∃ t, exec (.mapLoadEnd d) s = .next t ∧
        t = { s with
          drives := t.drives, ports := t.ports, slots := t.slots, works := t.works, maps := t.maps
          mapBuffer := { s.mapBuffer with owner := none }, out := [] } ∧
        t.drive d =
          { s.drive d with
            state := .idle, mapState := map, dispatched := none, recalCount := 0, mismatch := none
            orphaned := false, boundaryMissed := false } ∧
        (∀ j, j ≠ d → t.drive j = s.drive j) ∧ t.work d = none ∧
        t.map d = { s.map d with table := table, retired := retired, writeOwed := false, unplaced := [] } ∧
        (∀ j, j ≠ d → t.map j = s.map j) ∧
        ∀ q, t.port q =
          { s.port q with attention := (s.port q).attention.set d true, statusPending := true }
    (result = .done → recordValid m = true → (∀ e ∈ m.entries, e.state = .committed) →
      ends .loaded m.entries m.retired) ∧
    (result = .failed ∨ recordValid m = false → ends .degraded [] [])

/-- R34, R173, R35, R166, R167, R168, R170: the end of a map write. A MAP-WRITE order leaves the Sparing Queue and its
drive enters IDLE; a failed write leaves the map state DEGRADED, the table in memory as it was. A write of S2 that has
succeeded is followed by S3, or by S4 when S2 was repeated, with HEAD SELECT and SEEK to the track of that step. A write of
S6 that has succeeded ends the order in S7: it leaves the queue, the Image Area is released, the history entries of the
replaced track go, the drive enters IDLE. The map buffer is given up. That S3 and S4 SEEK whatever the distance is the
model's reading (log entry 26). -/
def Obligations.MapWriteOrderEnds : Prop :=
  ∀ (s : State) (d : DriveNo) (w : Work) (result : WorkResult) (o : Order), s.followUps = [] → s.stringReset = none →
    s.work d = some w → w.kind = .mapWrite ∨ w.kind = .mapReadBack → w.result = some result →
    s.mapBuffer.owner = some ⟨d, false⟩ → (∀ o ∈ s.mapBuffer.waiting, o.drive ≠ d) → s.orders = [o] →
    o.drive = d → o.requester = none → s.awaiting = [] → s.queue = [] →
    (∀ k, (s.map k).unplaced = [] ∧ (s.map k).writeOwed = false) →
    let ends (map : MapState) (t : State) : Prop :=
      t.work d = none ∧ (∀ j, j ≠ d → t.work j = s.work j) ∧
      t.slot (driveSlot d) = none ∧ (∀ i, i ≠ driveSlot d → t.slot i = s.slot i) ∧
      t.drive d =
        { s.drive d with
          state := .idle, mapState := map
          dispatched := none, recalCount := 0, mismatch := none, orphaned := false, boundaryMissed := false } ∧
      ∀ j, j ≠ d → t.drive j = s.drive j
    (o.kind = .mapWrite → o.step = .running → (∀ e ∈ (s.map d).table, e.state = .committed) →
      (s.drive d).state = .sparing → (s.drive d).rotationKnown = true →
      ∃ t, exec (.mapWriteEnd d) s = .next t ∧
        t = { s with
          drives := t.drives, works := t.works, slots := t.slots, orders := []
          mapBuffer := { s.mapBuffer with owner := none }, out := [] } ∧
        ends (if result = .failed then .degraded else (s.drive d).mapState) t) ∧
    (∀ n g b, o.kind = .spare n g → o.newAlt = some b → result = .done →
      let replaced : Track := match o.oldAlt with
        | some a => ⟨640 + a / 12, a % 12⟩
        | none => ⟨n / 12, n % 12⟩
      let goes (step : OrderStep) (track : Track) (source : Option Track) : State :=
        State.onDrive { s with
          orders := [{ o with step := step, recorded := true }], works := s.works.set d none
          mapBuffer := { s.mapBuffer with owner := none }, image := { s.image with source := source }
          out := [.bus d (.headSelect track.head), .bus d (.seek track.cyl)] } d fun r =>
            { r with head := track.head, offset := .none, target := some track.cyl, timer := .ms120 }
      (o.step = .s2 → o.retryCount = 0 →
        exec (.mapWriteEnd d) s = .next (goes .s3 replaced (some replaced))) ∧
      (o.step = .s2 → o.retryCount ≠ 0 →
        exec (.mapWriteEnd d) s = .next (goes .s4 ⟨640 + b / 12, b % 12⟩ s.image.source)) ∧
      (o.step = .s6 → s.slot imageSlot = none → (s.drive d).rotationKnown = true →
        (∀ e ∈ s.history, e.drive = d → e.raised = some n → e.track = replaced) →
        ∃ t, exec (.mapWriteEnd d) s = .next t ∧
          t = { s with
            drives := t.drives, works := t.works, slots := t.slots, orders := []
            mapBuffer := { s.mapBuffer with owner := none }
            image := { s.image with owner := .none, tags := Vector.replicate 24 .empty }
            history := s.history.filter fun e => decide (e.drive ≠ d ∨ e.track ≠ replaced), out := [] } ∧
          ends (s.drive d).mapState t))

/-! ## Sparing -/

/-- R167, R168, R153, R155: the S3 read has tagged all its blocks: the outcome of its visit goes to the Error History
Table, here for a track without an entry, unless the track has no owner or the outcome is CLEAN; the order enters S4 and
its drive is sent to the new alternate, with HEAD SELECT and SEEK. That the SEEK is issued whatever the distance is the
model's reading (log entry 26). -/
def Obligations.SparingReadEndEntersS4 : Prop :=
  ∀ (s : State) (d : DriveNo) (w : Work) (o : Order) (n b : Nat) (g : Origin) (v : Track) (r : VisitResult),
    s.followUps = [] → s.work d = some w →
    w.kind = .sparingRead → w.result = some .done → w.visitTrack = some v → w.visitResult = some r →
    (∀ e ∈ s.history, e.drive = d → e.track ≠ v) → s.history.length < 32 → s.orders = [o] → o.drive = d →
    o.kind = .spare n g → o.step = .s3 → o.newAlt = some b → s.queue = [] →
    exec (.sparingReadEnd d) s = .next
      (State.onDrive { s with
        orders := [{ o with step := .s4 }], works := s.works.set d none
        history := if s.owner d v = none ∨ r = .clean then s.history
          else ⟨d, v, [r], .none, none, none⟩ :: s.history
        out := [.bus d (.headSelect (b % 12)), .bus d (.seek (640 + b / 12))] } d fun r =>
          { r with head := b % 12, offset := .none, target := some (640 + b / 12), timer := .ms120 })

/-- R168, R166: a verified S4 is followed by S5, with HEAD SELECT and SEEK to the order's own track; a failed alternate
joins the retired set, the lowest free index takes its place in the order and in the COPYING entry, the retry count rises,
and the order returns to S2 at cylinder 655. -/
def Obligations.SparingVerifyEndEntersS5OrReturnsToS2 : Prop :=
  ∀ (s : State) (d : DriveNo) (w : Work) (result : WorkResult) (o : Order) (n b c : Nat) (g : Origin),
    s.followUps = [] → s.work d = some w → w.kind = .sparingWrite ∨ w.kind = .sparingVerify →
    w.result = some result → s.orders = [o] → o.drive = d → o.kind = .spare n g → o.step = .s4 → o.newAlt = some b →
    (result = .done → (s.drive d).cylinder ≠ n / 12 →
      exec (.sparingWriteVerifyEnd d) s = .next
        (State.onDrive { s with
          orders := [{ o with step := .s5 }], works := s.works.set d none
          out := [.bus d (.headSelect (n % 12)), .bus d (.seek (n / 12))] } d fun r =>
            { r with head := n % 12, offset := .none, target := some (n / 12), timer := .ms120 })) ∧
    (result = .failed → (s.drive d).cylinder ≠ 655 → b ∉ (s.map d).retired →
      c < 180 → c ≠ b → (s.map d).isFree c = true →
      (∀ a, a < c → a = b ∨ (s.map d).isFree a = false) →
      ∃ t, exec (.sparingWriteVerifyEnd d) s = .next t ∧
        t = { s with
          drives := t.drives, maps := t.maps, works := t.works, out := t.out
          orders := [{ o with step := .s2, newAlt := some c, retryCount := o.retryCount + 1 }] } ∧
        t.work d = none ∧ t.out = [.bus d (.headSelect 0), .bus d (.seek 655)] ∧
        t.drive d = { s.drive d with head := 0, offset := .none, target := some 655, timer := .ms120 } ∧
        (∀ j, j ≠ d → t.drive j = s.drive j) ∧
        t.map d =
          { s.map d with
            table := (s.map d).table.map fun e => if e.track = n then { e with alternate := c } else e
            retired := (s.map d).retired ++ [b] } ∧
        ∀ j, j ≠ d → t.map j = s.map j)

/-- R169, R170: when S5 ends, with every block recorded or stopped, the order enters S6: the entry of its track is
COMMITTED with the new alternate, the old alternate is retired, and the drive is sent to cylinder 655; a stop sets the
original-unmarked item. -/
def Obligations.SparingMarkEndCommits : Prop :=
  ∀ (s : State) (d : DriveNo) (w : Work) (result : WorkResult) (o : Order) (n b : Nat) (g : Origin),
    s.followUps = [] → s.work d = some w → w.kind = .sparingMark → w.result = some result →
    w.track = ⟨n / 12, n % 12⟩ → s.orders = [o] → o.drive = d → o.kind = .spare n g → o.step = .s5 →
    o.newAlt = some b → (∀ a, o.oldAlt = some a → a ∉ (s.map d).retired) → (s.drive d).cylinder ≠ 655 →
    ∃ t, exec (.sparingMarkEnd d) s = .next t ∧
      t = { s with
        drives := t.drives, maps := t.maps, works := t.works, out := t.out
        orders := [{ o with step := .s6 }] } ∧
      t.work d = none ∧ t.out = [.bus d (.headSelect 0), .bus d (.seek 655)] ∧
      t.drive d = { s.drive d with head := 0, offset := .none, target := some 655, timer := .ms120 } ∧
      (∀ j, j ≠ d → t.drive j = s.drive j) ∧
      t.map d =
        { s.map d with
          table := (s.map d).table.map fun e =>
            if e.track = n then { e with alternate := b, state := .committed, former := none } else e
          retired := (s.map d).retired ++ o.oldAlt.toList
          originalUnmarked :=
            if result = .failed then some n
            else if (s.map d).originalUnmarked = some n then none else (s.map d).originalUnmarked } ∧
      ∀ j, j ≠ d → t.map j = s.map j

/-! ## String reset -/

/-- R83, R19, R175, R61, R181: a string reset completes when every drive has come to rest, with no order in the Sparing
Queue: the Request Queue, every slot and every Status Queue are empty, every reservation is cleared, every Attention Set
holds the installed drives, and the requesting port gets COMPLETED and its link is IDLE. -/
def Obligations.StringResetCompletes : Prop :=
  ∀ (s : State) (p : Port) (tag : Nat), s.followUps = [] → s.stringReset = some ⟨some (p, tag)⟩ → s.active = none →
    s.orders = [] → s.image.owner ≠ .imageService →
    (∀ d, (s.drive d).state = .offline ∨ (s.drive d).state = .faulted ∨
      ((s.drive d).state = .idle ∧ (s.drive d).rotationKnown = true)) →
    ∃ t, exec .stringResetComplete s = .next t ∧
      t = { s with
        drives := t.drives, windows := t.windows, ports := t.ports, queue := [], stringReset := none
        slots := t.slots, dataPath := t.dataPath, arbiter := t.arbiter, awaiting := [], results := []
        out := [.message p (.answer 15 tag .completed)] } ∧
      (∀ i, t.slot i = none) ∧ t.dataPath.ring = [] ∧ t.arbiter.holder = none ∧
      t.arbiter.lastGranted = s.arbiter.lastGranted ∧ (∀ i : Fin 9, t.arbiter.pendingSet[i] = false) ∧
      (∀ d, (t.window d).state = .disarmed) ∧
      (∀ d, t.drive d =
        { s.drive d with
          dispatched := none, target := none, timer := .stopped, recalCount := 0, mismatch := none, offset := .none
          holder := none, deferred := false, orphaned := false, boundaryMissed := false }) ∧
      ∀ q, (t.port q).status = [] ∧ (t.port q).outstanding = 0 ∧ (t.port q).holdLine = false ∧
        (∀ d : DriveNo, (t.port q).attention[d] = (s.drive d).installed) ∧
        ((t.port q).statusPending = true ↔ ∃ d, (s.drive d).installed = true) ∧
        (t.port q).link = (if q = p then .idle else (s.port q).link) ∧
        (t.port q).reply = (if q = p then none else (s.port q).reply) ∧
        (t.port q).waiting = (s.port q).waiting ∧ (t.port q).linkClass = (s.port q).linkClass ∧
        (t.port q).maintenance = (s.port q).maintenance

/-! ## Media, estimates, the choice, messages -/

/-- R3, R128, R140, R34, R168, R169: what a block that ends at the fourth mark records. In the write pass of a host write
it is the content of the head slot with its check behind the identity field, recorded anew where a LOST mark is cleared and
otherwise as it stands, and the block leaves the marks in doubt; in a map write it is the map buffer's block behind the
field as it stands; in S4 and S5 the image block behind the field of that step, with the check complemented where the field
carries the LOST mark, and S4 takes the block out of the marks in doubt. Every other block stays, and the media keep their
canonical form. For the media store itself: what is written is read, and every other address reads as before. -/
def Obligations.MediaReadAfterWrite : Prop :=
  (∀ (m : List MediaCell) (k : Nat) (r : Recorded), mediaCanonical m = true →
    mediaRead (mediaWrite m k r) k = r ∧ (∀ j, j ≠ k → mediaRead (mediaWrite m k r) j = mediaRead m j) ∧
    mediaCanonical (mediaWrite m k r) = true) ∧
  ∀ (s : State) (d : DriveNo) (x : MarkInput) (a : Active), s.followUps = [] → mediaCanonical s.media = true →
    s.active = some a → a.drive = d → a.phase = .ready → a.leaving = none → a.abandoned = false →
    a.blockMarks = some 3 → a.fieldFailed = false → s.dataPath.pacing < 16 → (s.drive d).installed = true →
    let records (track : Track) (field : FieldRead) (c : Content) (t : State) : Prop :=
      mediaRead t.media (mediaKey d track a.diskBlock) =
        ⟨field, ⟨c, if field.field.lost then .complemented else .generated⟩⟩ ∧
      (∀ k, k ≠ mediaKey d track a.diskBlock → mediaRead t.media k = mediaRead s.media k) ∧
      mediaCanonical t.media = true
    (∀ (p : Package) (track : Track) (r : RingSlot) (ring : List RingSlot) (c : Content),
      a.conn = .host p (driveSlot d) → p.kind = .writeBlocks → p.verify = false → a.diskPhysical = some track →
      s.work d = none → s.dataPath.ring = r :: ring → r.content = some c →
      ∃ t, exec (.sectorMark d x) s = .next t ∧
        records track (match a.rewrite with | some f => ⟨f, .generated⟩ | none => (s.recorded d track a.diskBlock).field)
          c t ∧
        (t.map d).inDoubt = (s.map d).inDoubt.filter fun b => b ≠ ⟨track, a.diskBlock⟩) ∧
    ∀ w v : Work, a.conn = .work w → s.work d = some v → v.result = none → a.diskBlock < 24 →
      (∀ c, w.kind = .mapWrite → s.mapBuffer.blocks[a.diskBlock]? = some c →
        ∃ t, exec (.sectorMark d x) s = .next t ∧
          records w.track (s.recorded d w.track a.diskBlock).field c t ∧ (t.map d).inDoubt = (s.map d).inDoubt) ∧
      ∀ (o : Order) (n b : Nat) (g : Origin), s.startedOrder d = some o → o.kind = .spare n g → o.newAlt = some b →
        let lost := s.imageTag a.diskBlock = .unreadable
        let field (cond : TrackCondition) (link : Track) : FieldRead :=
          ⟨⟨w.track.cyl, w.track.head, a.diskBlock, cond, some link, lost⟩, .generated⟩
        (w.kind = .sparingWrite →
          ∃ t, exec (.sectorMark d x) s = .next t ∧
            records w.track (field .alternate ⟨n / 12, n % 12⟩) (s.imageContent a.diskBlock) t ∧
            (t.map d).inDoubt = (s.map d).inDoubt.filter fun c => c ≠ ⟨w.track, a.diskBlock⟩) ∧
        (w.kind = .sparingMark →
          ∃ t, exec (.sectorMark d x) s = .next t ∧
            records w.track (field .defective ⟨640 + b / 12, b % 12⟩) (s.imageContent a.diskBlock) t ∧
            (t.map d).inDoubt = (s.map d).inDoubt)

/-- R49, R50: the seek estimate of each distance, which never falls and is largest at 654 and 655; the rotational wait
from the arm's expected arrival to the window sector; and their sum, the access estimate, over the inputs of R47. -/
def Obligations.AccessEstimateStages : Prop :=
  (∀ a b, a ≤ b → seekEstimate a ≤ seekEstimate b) ∧
  (∀ d, d ≤ 655 →
    (d = 0 → seekEstimate d = 0) ∧
    (1 ≤ d → d ≤ 31 → seekEstimate d = 40 + 2 * d ∧ 42 ≤ seekEstimate d ∧ seekEstimate d ≤ 102) ∧
    (32 ≤ d → seekEstimate d = 94 + d / 3 ∧ 104 ≤ seekEstimate d ∧ seekEstimate d ≤ 312) ∧
    (seekEstimate d = 312 ↔ 654 ≤ d)) ∧
  ∀ target arm angle block lead : Nat, target ≤ 655 → arm ≤ 655 → angle ≤ 95 → block ≤ 23 → 2 ≤ lead → lead ≤ 8 →
    let seek := seekEstimate (distance target arm)
    let sector := windowSector block lead
    let wait := rotationalWait block lead angle seek
    distance target arm = ((target : Int) - arm).natAbs ∧
    (sector : Int) = (4 * (block : Int) - lead) % 96 ∧
    (wait : Int) = (4 * (block : Int) - lead - angle - seek) % 96 ∧
    (wait : Int) = ((sector : Int) - angle - seek) % 96 ∧
    wait ≤ 95 ∧ (wait = 0 ↔ (angle + seek) % 96 = sector) ∧
    (wait = 95 ↔ (angle + seek) % 96 = (sector + 1) % 96) ∧
    accessEstimate target arm angle block lead = seek + wait ∧
    accessEstimate target arm angle block lead ≤ 407 ∧
    (accessEstimate target arm angle block lead = 0 ↔ target = arm ∧ angle = sector) ∧
    (accessEstimate target arm angle block lead = 407 ↔ 654 ≤ distance target arm ∧ wait = 95)

/-- R52: the chosen request is of the eligible set: the oldest urgent one when the set holds an urgent request, otherwise
one whose estimate no other of the set is below, and which no older one of the set equals. Some request is chosen from any
set that is not empty; without one nothing changes. Neither the links' states nor the mode flags enter the choice. -/
def Obligations.DispatchChoice : Prop :=
  ∀ (s : State) (d : DriveNo),
    (s.eligibleSet d = [] ↔ s.chosen d = none) ∧
    (s.eligibleSet d = [] → (s.drive d).rotationKnown = true → s.choose d = s) ∧
    (∀ e, s.chosen d = some e →
      ∃ older younger, s.eligibleSet d = older ++ e :: younger ∧
        (((∃ x ∈ s.eligibleSet d, x.bypass = 8) ∧ e.bypass = 8 ∧ ∀ x ∈ older, x.bypass ≠ 8) ∨
          ((∀ x ∈ s.eligibleSet d, x.bypass ≠ 8) ∧ (∀ x ∈ older, s.estimate d e < s.estimate d x) ∧
            ∀ x ∈ younger, s.estimate d e ≤ s.estimate d x))) ∧
    (∀ (p : Port) (l : LinkState), (State.onPort s p fun u => { u with link := l }).chosen d = s.chosen d) ∧
    ∀ f : ModeFlags → ModeFlags,
      let flagged (e : Entry) : Entry := { e with request := { e.request with flags := f e.request.flags } }
      State.chosen { s with queue := s.queue.map flagged } d = (s.chosen d).map flagged

/-- R166, R22, R171: the write-ahead of S2 in a table in ascending order. A track without an entry gains a COPYING entry in
its place, with the new alternate and no former alternate; its COMMITTED entry becomes COPYING with the new alternate, and
its alternate becomes the former one; a COPYING entry takes the new alternate. Nothing else of the drive's map changes. An
order in S1 that takes the freed map buffer enters S2 with its write-ahead made. Over an entry that is COMMITTED without a
former alternate, or none, the restoration gives back the table and the retired set as they were. -/
def Obligations.RestoreUndoesWriteAhead : Prop :=
  (∀ (m : DriveMap) (n a : Nat), ascending m.table = true →
    (∀ e ∈ m.table, e.track = n → e.state = .committed ∧ e.former = none) →
    (m.writeAhead n a).restore n = m) ∧
  (∀ (m : DriveMap) (n a : Nat), ascending m.table = true →
    m.writeAhead n a = { m with table := (m.writeAhead n a).table } ∧
    ((∀ e ∈ m.table, e.track ≠ n) →
      ∃ l r, m.table = l ++ r ∧ (m.writeAhead n a).table = l ++ ⟨n, a, .copying, none⟩ :: r ∧
        (∀ e ∈ l, e.track < n) ∧ ∀ e ∈ r, n < e.track) ∧
    ∀ l e r, m.table = l ++ e :: r → e.track = n →
      (m.writeAhead n a).table = l ++
        { e with
          alternate := a, state := .copying
          former := if e.state = .committed then some e.alternate else e.former } :: r) ∧
  ∀ (s : State) (d : DriveNo) (rest : List MapOp) (o : Order) (n a : Nat) (g : Origin), s.followUps = [] →
    s.mapBuffer.owner = none → s.mapBuffer.waiting = ⟨d, false⟩ :: rest → ⟨d, false⟩ ∉ rest → s.orders = [o] →
    o.drive = d → o.kind = .spare n g → o.step = .s1 → o.newAlt = some a → (s.drive d).unanswered = .stopped →
    ∃ t, exec .mapBufferTaken s = .next t ∧
      t = { s with
        windows := t.windows, works := t.works, arbiter := t.arbiter, maps := t.maps, mapBuffer := t.mapBuffer
        orders := [{ o with step := .s2 }], out := [] } ∧
      t.mapBuffer.owner = some ⟨d, false⟩ ∧ t.mapBuffer.waiting = rest ∧
      t.map d = { s.map d with table := ((s.map d).writeAhead n a).table, writeOwed := false } ∧
      (∀ k, k ≠ d → t.map k = s.map k ∧ t.work k = s.work k ∧ t.window k = s.window k) ∧
      t.work d = some ⟨.mapWrite, ⟨655, 0⟩, 0, 4, 0, none, none, none⟩

/-- R186, 11.2: the request message of a well-formed request reads back as that request, for every kind of request, kind
codes that the unit does not know included. -/
def Obligations.RequestMessageReadsBack : Prop :=
  ∀ x : HostExchange,
    (match x with
      | .drive _ m => m.wellFormed = true
      | .sense tag _ => tag < 64
      | .reserve tag _ => tag < 64
      | .release tag _ => tag < 64
      | .resetString tag => tag < 64
      | .unknown code tag => unknownKindCode code = true ∧ tag < 64
      | .collect => False) →
    (requestBytes x).length = 8 ∧ readRequest (requestBytes x) = some x
end

