-- ==== Sys2Proof/Laws/State.lean ====
section
/-! SUPPORT. What each update of the state leaves as it was, and what it sets: one lemma a field, true by `rfl`. -/

namespace Sys2Proof.Machine

section
variable (s : State)

@[simp] theorem State.onDrive_pending (d : DriveNo) (f : DriveRecord → DriveRecord) : (s.onDrive d f).pending = s.pending := rfl
@[simp] theorem State.onDrive_windows (d : DriveNo) (f : DriveRecord → DriveRecord) : (s.onDrive d f).windows = s.windows := rfl
@[simp] theorem State.onDrive_ports (d : DriveNo) (f : DriveRecord → DriveRecord) : (s.onDrive d f).ports = s.ports := rfl
@[simp] theorem State.onDrive_queue (d : DriveNo) (f : DriveRecord → DriveRecord) : (s.onDrive d f).queue = s.queue := rfl
@[simp] theorem State.onDrive_stringReset (d : DriveNo) (f : DriveRecord → DriveRecord) : (s.onDrive d f).stringReset = s.stringReset := rfl
@[simp] theorem State.onDrive_slots (d : DriveNo) (f : DriveRecord → DriveRecord) : (s.onDrive d f).slots = s.slots := rfl
@[simp] theorem State.onDrive_active (d : DriveNo) (f : DriveRecord → DriveRecord) : (s.onDrive d f).active = s.active := rfl
@[simp] theorem State.onDrive_arbiter (d : DriveNo) (f : DriveRecord → DriveRecord) : (s.onDrive d f).arbiter = s.arbiter := rfl
@[simp] theorem State.onDrive_dataPath (d : DriveNo) (f : DriveRecord → DriveRecord) : (s.onDrive d f).dataPath = s.dataPath := rfl
@[simp] theorem State.onDrive_works (d : DriveNo) (f : DriveRecord → DriveRecord) : (s.onDrive d f).works = s.works := rfl
@[simp] theorem State.onDrive_maps (d : DriveNo) (f : DriveRecord → DriveRecord) : (s.onDrive d f).maps = s.maps := rfl
@[simp] theorem State.onDrive_mapBuffer (d : DriveNo) (f : DriveRecord → DriveRecord) : (s.onDrive d f).mapBuffer = s.mapBuffer := rfl
@[simp] theorem State.onDrive_orders (d : DriveNo) (f : DriveRecord → DriveRecord) : (s.onDrive d f).orders = s.orders := rfl
@[simp] theorem State.onDrive_awaiting (d : DriveNo) (f : DriveRecord → DriveRecord) : (s.onDrive d f).awaiting = s.awaiting := rfl
@[simp] theorem State.onDrive_results (d : DriveNo) (f : DriveRecord → DriveRecord) : (s.onDrive d f).results = s.results := rfl
@[simp] theorem State.onDrive_image (d : DriveNo) (f : DriveRecord → DriveRecord) : (s.onDrive d f).image = s.image := rfl
@[simp] theorem State.onDrive_history (d : DriveNo) (f : DriveRecord → DriveRecord) : (s.onDrive d f).history = s.history := rfl
@[simp] theorem State.onDrive_media (d : DriveNo) (f : DriveRecord → DriveRecord) : (s.onDrive d f).media = s.media := rfl
@[simp] theorem State.onDrive_followUps (d : DriveNo) (f : DriveRecord → DriveRecord) : (s.onDrive d f).followUps = s.followUps := rfl
@[simp] theorem State.onDrive_out (d : DriveNo) (f : DriveRecord → DriveRecord) : (s.onDrive d f).out = s.out := rfl
@[simp] theorem State.onDrive_freeIndex (d : DriveNo) (f : DriveRecord → DriveRecord) : (s.onDrive d f).freeIndex = s.freeIndex := rfl

@[simp] theorem State.onWindow_pending (d : DriveNo) (f : Arming → Arming) : (s.onWindow d f).pending = s.pending := rfl
@[simp] theorem State.onWindow_drives (d : DriveNo) (f : Arming → Arming) : (s.onWindow d f).drives = s.drives := rfl
@[simp] theorem State.onWindow_ports (d : DriveNo) (f : Arming → Arming) : (s.onWindow d f).ports = s.ports := rfl
@[simp] theorem State.onWindow_queue (d : DriveNo) (f : Arming → Arming) : (s.onWindow d f).queue = s.queue := rfl
@[simp] theorem State.onWindow_stringReset (d : DriveNo) (f : Arming → Arming) : (s.onWindow d f).stringReset = s.stringReset := rfl
@[simp] theorem State.onWindow_slots (d : DriveNo) (f : Arming → Arming) : (s.onWindow d f).slots = s.slots := rfl
@[simp] theorem State.onWindow_active (d : DriveNo) (f : Arming → Arming) : (s.onWindow d f).active = s.active := rfl
@[simp] theorem State.onWindow_arbiter (d : DriveNo) (f : Arming → Arming) : (s.onWindow d f).arbiter = s.arbiter := rfl
@[simp] theorem State.onWindow_dataPath (d : DriveNo) (f : Arming → Arming) : (s.onWindow d f).dataPath = s.dataPath := rfl
@[simp] theorem State.onWindow_works (d : DriveNo) (f : Arming → Arming) : (s.onWindow d f).works = s.works := rfl
@[simp] theorem State.onWindow_maps (d : DriveNo) (f : Arming → Arming) : (s.onWindow d f).maps = s.maps := rfl
@[simp] theorem State.onWindow_mapBuffer (d : DriveNo) (f : Arming → Arming) : (s.onWindow d f).mapBuffer = s.mapBuffer := rfl
@[simp] theorem State.onWindow_orders (d : DriveNo) (f : Arming → Arming) : (s.onWindow d f).orders = s.orders := rfl
@[simp] theorem State.onWindow_awaiting (d : DriveNo) (f : Arming → Arming) : (s.onWindow d f).awaiting = s.awaiting := rfl
@[simp] theorem State.onWindow_results (d : DriveNo) (f : Arming → Arming) : (s.onWindow d f).results = s.results := rfl
@[simp] theorem State.onWindow_image (d : DriveNo) (f : Arming → Arming) : (s.onWindow d f).image = s.image := rfl
@[simp] theorem State.onWindow_history (d : DriveNo) (f : Arming → Arming) : (s.onWindow d f).history = s.history := rfl
@[simp] theorem State.onWindow_media (d : DriveNo) (f : Arming → Arming) : (s.onWindow d f).media = s.media := rfl
@[simp] theorem State.onWindow_followUps (d : DriveNo) (f : Arming → Arming) : (s.onWindow d f).followUps = s.followUps := rfl
@[simp] theorem State.onWindow_out (d : DriveNo) (f : Arming → Arming) : (s.onWindow d f).out = s.out := rfl
@[simp] theorem State.onWindow_freeIndex (d : DriveNo) (f : Arming → Arming) : (s.onWindow d f).freeIndex = s.freeIndex := rfl

@[simp] theorem State.onPort_pending (p : Port) (f : PortUnit → PortUnit) : (s.onPort p f).pending = s.pending := rfl
@[simp] theorem State.onPort_drives (p : Port) (f : PortUnit → PortUnit) : (s.onPort p f).drives = s.drives := rfl
@[simp] theorem State.onPort_windows (p : Port) (f : PortUnit → PortUnit) : (s.onPort p f).windows = s.windows := rfl
@[simp] theorem State.onPort_queue (p : Port) (f : PortUnit → PortUnit) : (s.onPort p f).queue = s.queue := rfl
@[simp] theorem State.onPort_stringReset (p : Port) (f : PortUnit → PortUnit) : (s.onPort p f).stringReset = s.stringReset := rfl
@[simp] theorem State.onPort_slots (p : Port) (f : PortUnit → PortUnit) : (s.onPort p f).slots = s.slots := rfl
@[simp] theorem State.onPort_active (p : Port) (f : PortUnit → PortUnit) : (s.onPort p f).active = s.active := rfl
@[simp] theorem State.onPort_arbiter (p : Port) (f : PortUnit → PortUnit) : (s.onPort p f).arbiter = s.arbiter := rfl
@[simp] theorem State.onPort_dataPath (p : Port) (f : PortUnit → PortUnit) : (s.onPort p f).dataPath = s.dataPath := rfl
@[simp] theorem State.onPort_works (p : Port) (f : PortUnit → PortUnit) : (s.onPort p f).works = s.works := rfl
@[simp] theorem State.onPort_maps (p : Port) (f : PortUnit → PortUnit) : (s.onPort p f).maps = s.maps := rfl
@[simp] theorem State.onPort_mapBuffer (p : Port) (f : PortUnit → PortUnit) : (s.onPort p f).mapBuffer = s.mapBuffer := rfl
@[simp] theorem State.onPort_orders (p : Port) (f : PortUnit → PortUnit) : (s.onPort p f).orders = s.orders := rfl
@[simp] theorem State.onPort_awaiting (p : Port) (f : PortUnit → PortUnit) : (s.onPort p f).awaiting = s.awaiting := rfl
@[simp] theorem State.onPort_results (p : Port) (f : PortUnit → PortUnit) : (s.onPort p f).results = s.results := rfl
@[simp] theorem State.onPort_image (p : Port) (f : PortUnit → PortUnit) : (s.onPort p f).image = s.image := rfl
@[simp] theorem State.onPort_history (p : Port) (f : PortUnit → PortUnit) : (s.onPort p f).history = s.history := rfl
@[simp] theorem State.onPort_media (p : Port) (f : PortUnit → PortUnit) : (s.onPort p f).media = s.media := rfl
@[simp] theorem State.onPort_followUps (p : Port) (f : PortUnit → PortUnit) : (s.onPort p f).followUps = s.followUps := rfl
@[simp] theorem State.onPort_out (p : Port) (f : PortUnit → PortUnit) : (s.onPort p f).out = s.out := rfl
@[simp] theorem State.onPort_freeIndex (p : Port) (f : PortUnit → PortUnit) : (s.onPort p f).freeIndex = s.freeIndex := rfl

@[simp] theorem State.setSlot_pending (i : Fin 9) (x : Option Package) : (s.setSlot i x).pending = s.pending := rfl
@[simp] theorem State.setSlot_drives (i : Fin 9) (x : Option Package) : (s.setSlot i x).drives = s.drives := rfl
@[simp] theorem State.setSlot_windows (i : Fin 9) (x : Option Package) : (s.setSlot i x).windows = s.windows := rfl
@[simp] theorem State.setSlot_ports (i : Fin 9) (x : Option Package) : (s.setSlot i x).ports = s.ports := rfl
@[simp] theorem State.setSlot_queue (i : Fin 9) (x : Option Package) : (s.setSlot i x).queue = s.queue := rfl
@[simp] theorem State.setSlot_stringReset (i : Fin 9) (x : Option Package) : (s.setSlot i x).stringReset = s.stringReset := rfl
@[simp] theorem State.setSlot_active (i : Fin 9) (x : Option Package) : (s.setSlot i x).active = s.active := rfl
@[simp] theorem State.setSlot_arbiter (i : Fin 9) (x : Option Package) : (s.setSlot i x).arbiter = s.arbiter := rfl
@[simp] theorem State.setSlot_dataPath (i : Fin 9) (x : Option Package) : (s.setSlot i x).dataPath = s.dataPath := rfl
@[simp] theorem State.setSlot_works (i : Fin 9) (x : Option Package) : (s.setSlot i x).works = s.works := rfl
@[simp] theorem State.setSlot_maps (i : Fin 9) (x : Option Package) : (s.setSlot i x).maps = s.maps := rfl
@[simp] theorem State.setSlot_mapBuffer (i : Fin 9) (x : Option Package) : (s.setSlot i x).mapBuffer = s.mapBuffer := rfl
@[simp] theorem State.setSlot_orders (i : Fin 9) (x : Option Package) : (s.setSlot i x).orders = s.orders := rfl
@[simp] theorem State.setSlot_awaiting (i : Fin 9) (x : Option Package) : (s.setSlot i x).awaiting = s.awaiting := rfl
@[simp] theorem State.setSlot_results (i : Fin 9) (x : Option Package) : (s.setSlot i x).results = s.results := rfl
@[simp] theorem State.setSlot_image (i : Fin 9) (x : Option Package) : (s.setSlot i x).image = s.image := rfl
@[simp] theorem State.setSlot_history (i : Fin 9) (x : Option Package) : (s.setSlot i x).history = s.history := rfl
@[simp] theorem State.setSlot_media (i : Fin 9) (x : Option Package) : (s.setSlot i x).media = s.media := rfl
@[simp] theorem State.setSlot_followUps (i : Fin 9) (x : Option Package) : (s.setSlot i x).followUps = s.followUps := rfl
@[simp] theorem State.setSlot_out (i : Fin 9) (x : Option Package) : (s.setSlot i x).out = s.out := rfl
@[simp] theorem State.setSlot_freeIndex (i : Fin 9) (x : Option Package) : (s.setSlot i x).freeIndex = s.freeIndex := rfl

@[simp] theorem State.setWork_pending (d : DriveNo) (w : Option Work) : (s.setWork d w).pending = s.pending := rfl
@[simp] theorem State.setWork_drives (d : DriveNo) (w : Option Work) : (s.setWork d w).drives = s.drives := rfl
@[simp] theorem State.setWork_windows (d : DriveNo) (w : Option Work) : (s.setWork d w).windows = s.windows := rfl
@[simp] theorem State.setWork_ports (d : DriveNo) (w : Option Work) : (s.setWork d w).ports = s.ports := rfl
@[simp] theorem State.setWork_queue (d : DriveNo) (w : Option Work) : (s.setWork d w).queue = s.queue := rfl
@[simp] theorem State.setWork_stringReset (d : DriveNo) (w : Option Work) : (s.setWork d w).stringReset = s.stringReset := rfl
@[simp] theorem State.setWork_slots (d : DriveNo) (w : Option Work) : (s.setWork d w).slots = s.slots := rfl
@[simp] theorem State.setWork_active (d : DriveNo) (w : Option Work) : (s.setWork d w).active = s.active := rfl
@[simp] theorem State.setWork_arbiter (d : DriveNo) (w : Option Work) : (s.setWork d w).arbiter = s.arbiter := rfl
@[simp] theorem State.setWork_dataPath (d : DriveNo) (w : Option Work) : (s.setWork d w).dataPath = s.dataPath := rfl
@[simp] theorem State.setWork_maps (d : DriveNo) (w : Option Work) : (s.setWork d w).maps = s.maps := rfl
@[simp] theorem State.setWork_mapBuffer (d : DriveNo) (w : Option Work) : (s.setWork d w).mapBuffer = s.mapBuffer := rfl
@[simp] theorem State.setWork_orders (d : DriveNo) (w : Option Work) : (s.setWork d w).orders = s.orders := rfl
@[simp] theorem State.setWork_awaiting (d : DriveNo) (w : Option Work) : (s.setWork d w).awaiting = s.awaiting := rfl
@[simp] theorem State.setWork_results (d : DriveNo) (w : Option Work) : (s.setWork d w).results = s.results := rfl
@[simp] theorem State.setWork_image (d : DriveNo) (w : Option Work) : (s.setWork d w).image = s.image := rfl
@[simp] theorem State.setWork_history (d : DriveNo) (w : Option Work) : (s.setWork d w).history = s.history := rfl
@[simp] theorem State.setWork_media (d : DriveNo) (w : Option Work) : (s.setWork d w).media = s.media := rfl
@[simp] theorem State.setWork_followUps (d : DriveNo) (w : Option Work) : (s.setWork d w).followUps = s.followUps := rfl
@[simp] theorem State.setWork_out (d : DriveNo) (w : Option Work) : (s.setWork d w).out = s.out := rfl
@[simp] theorem State.setWork_freeIndex (d : DriveNo) (w : Option Work) : (s.setWork d w).freeIndex = s.freeIndex := rfl

@[simp] theorem State.onMap_pending (d : DriveNo) (f : DriveMap → DriveMap) : (s.onMap d f).pending = s.pending := rfl
@[simp] theorem State.onMap_drives (d : DriveNo) (f : DriveMap → DriveMap) : (s.onMap d f).drives = s.drives := rfl
@[simp] theorem State.onMap_windows (d : DriveNo) (f : DriveMap → DriveMap) : (s.onMap d f).windows = s.windows := rfl
@[simp] theorem State.onMap_ports (d : DriveNo) (f : DriveMap → DriveMap) : (s.onMap d f).ports = s.ports := rfl
@[simp] theorem State.onMap_queue (d : DriveNo) (f : DriveMap → DriveMap) : (s.onMap d f).queue = s.queue := rfl
@[simp] theorem State.onMap_stringReset (d : DriveNo) (f : DriveMap → DriveMap) : (s.onMap d f).stringReset = s.stringReset := rfl
@[simp] theorem State.onMap_slots (d : DriveNo) (f : DriveMap → DriveMap) : (s.onMap d f).slots = s.slots := rfl
@[simp] theorem State.onMap_active (d : DriveNo) (f : DriveMap → DriveMap) : (s.onMap d f).active = s.active := rfl
@[simp] theorem State.onMap_arbiter (d : DriveNo) (f : DriveMap → DriveMap) : (s.onMap d f).arbiter = s.arbiter := rfl
@[simp] theorem State.onMap_dataPath (d : DriveNo) (f : DriveMap → DriveMap) : (s.onMap d f).dataPath = s.dataPath := rfl
@[simp] theorem State.onMap_works (d : DriveNo) (f : DriveMap → DriveMap) : (s.onMap d f).works = s.works := rfl
@[simp] theorem State.onMap_mapBuffer (d : DriveNo) (f : DriveMap → DriveMap) : (s.onMap d f).mapBuffer = s.mapBuffer := rfl
@[simp] theorem State.onMap_orders (d : DriveNo) (f : DriveMap → DriveMap) : (s.onMap d f).orders = s.orders := rfl
@[simp] theorem State.onMap_awaiting (d : DriveNo) (f : DriveMap → DriveMap) : (s.onMap d f).awaiting = s.awaiting := rfl
@[simp] theorem State.onMap_results (d : DriveNo) (f : DriveMap → DriveMap) : (s.onMap d f).results = s.results := rfl
@[simp] theorem State.onMap_image (d : DriveNo) (f : DriveMap → DriveMap) : (s.onMap d f).image = s.image := rfl
@[simp] theorem State.onMap_history (d : DriveNo) (f : DriveMap → DriveMap) : (s.onMap d f).history = s.history := rfl
@[simp] theorem State.onMap_media (d : DriveNo) (f : DriveMap → DriveMap) : (s.onMap d f).media = s.media := rfl
@[simp] theorem State.onMap_followUps (d : DriveNo) (f : DriveMap → DriveMap) : (s.onMap d f).followUps = s.followUps := rfl
@[simp] theorem State.onMap_out (d : DriveNo) (f : DriveMap → DriveMap) : (s.onMap d f).out = s.out := rfl
@[simp] theorem State.onMap_freeIndex (d : DriveNo) (f : DriveMap → DriveMap) : (s.onMap d f).freeIndex = s.freeIndex := rfl

@[simp] theorem State.onActive_pending (f : Active → Active) : (s.onActive f).pending = s.pending := rfl
@[simp] theorem State.onActive_drives (f : Active → Active) : (s.onActive f).drives = s.drives := rfl
@[simp] theorem State.onActive_windows (f : Active → Active) : (s.onActive f).windows = s.windows := rfl
@[simp] theorem State.onActive_ports (f : Active → Active) : (s.onActive f).ports = s.ports := rfl
@[simp] theorem State.onActive_queue (f : Active → Active) : (s.onActive f).queue = s.queue := rfl
@[simp] theorem State.onActive_stringReset (f : Active → Active) : (s.onActive f).stringReset = s.stringReset := rfl
@[simp] theorem State.onActive_slots (f : Active → Active) : (s.onActive f).slots = s.slots := rfl
@[simp] theorem State.onActive_arbiter (f : Active → Active) : (s.onActive f).arbiter = s.arbiter := rfl
@[simp] theorem State.onActive_dataPath (f : Active → Active) : (s.onActive f).dataPath = s.dataPath := rfl
@[simp] theorem State.onActive_works (f : Active → Active) : (s.onActive f).works = s.works := rfl
@[simp] theorem State.onActive_maps (f : Active → Active) : (s.onActive f).maps = s.maps := rfl
@[simp] theorem State.onActive_mapBuffer (f : Active → Active) : (s.onActive f).mapBuffer = s.mapBuffer := rfl
@[simp] theorem State.onActive_orders (f : Active → Active) : (s.onActive f).orders = s.orders := rfl
@[simp] theorem State.onActive_awaiting (f : Active → Active) : (s.onActive f).awaiting = s.awaiting := rfl
@[simp] theorem State.onActive_results (f : Active → Active) : (s.onActive f).results = s.results := rfl
@[simp] theorem State.onActive_image (f : Active → Active) : (s.onActive f).image = s.image := rfl
@[simp] theorem State.onActive_history (f : Active → Active) : (s.onActive f).history = s.history := rfl
@[simp] theorem State.onActive_media (f : Active → Active) : (s.onActive f).media = s.media := rfl
@[simp] theorem State.onActive_followUps (f : Active → Active) : (s.onActive f).followUps = s.followUps := rfl
@[simp] theorem State.onActive_out (f : Active → Active) : (s.onActive f).out = s.out := rfl
@[simp] theorem State.onActive_freeIndex (f : Active → Active) : (s.onActive f).freeIndex = s.freeIndex := rfl

@[simp] theorem State.onDataPath_pending (f : DataPath → DataPath) : (s.onDataPath f).pending = s.pending := rfl
@[simp] theorem State.onDataPath_drives (f : DataPath → DataPath) : (s.onDataPath f).drives = s.drives := rfl
@[simp] theorem State.onDataPath_windows (f : DataPath → DataPath) : (s.onDataPath f).windows = s.windows := rfl
@[simp] theorem State.onDataPath_ports (f : DataPath → DataPath) : (s.onDataPath f).ports = s.ports := rfl
@[simp] theorem State.onDataPath_queue (f : DataPath → DataPath) : (s.onDataPath f).queue = s.queue := rfl
@[simp] theorem State.onDataPath_stringReset (f : DataPath → DataPath) : (s.onDataPath f).stringReset = s.stringReset := rfl
@[simp] theorem State.onDataPath_slots (f : DataPath → DataPath) : (s.onDataPath f).slots = s.slots := rfl
@[simp] theorem State.onDataPath_active (f : DataPath → DataPath) : (s.onDataPath f).active = s.active := rfl
@[simp] theorem State.onDataPath_arbiter (f : DataPath → DataPath) : (s.onDataPath f).arbiter = s.arbiter := rfl
@[simp] theorem State.onDataPath_works (f : DataPath → DataPath) : (s.onDataPath f).works = s.works := rfl
@[simp] theorem State.onDataPath_maps (f : DataPath → DataPath) : (s.onDataPath f).maps = s.maps := rfl
@[simp] theorem State.onDataPath_mapBuffer (f : DataPath → DataPath) : (s.onDataPath f).mapBuffer = s.mapBuffer := rfl
@[simp] theorem State.onDataPath_orders (f : DataPath → DataPath) : (s.onDataPath f).orders = s.orders := rfl
@[simp] theorem State.onDataPath_awaiting (f : DataPath → DataPath) : (s.onDataPath f).awaiting = s.awaiting := rfl
@[simp] theorem State.onDataPath_results (f : DataPath → DataPath) : (s.onDataPath f).results = s.results := rfl
@[simp] theorem State.onDataPath_image (f : DataPath → DataPath) : (s.onDataPath f).image = s.image := rfl
@[simp] theorem State.onDataPath_history (f : DataPath → DataPath) : (s.onDataPath f).history = s.history := rfl
@[simp] theorem State.onDataPath_media (f : DataPath → DataPath) : (s.onDataPath f).media = s.media := rfl
@[simp] theorem State.onDataPath_followUps (f : DataPath → DataPath) : (s.onDataPath f).followUps = s.followUps := rfl
@[simp] theorem State.onDataPath_out (f : DataPath → DataPath) : (s.onDataPath f).out = s.out := rfl
@[simp] theorem State.onDataPath_freeIndex (f : DataPath → DataPath) : (s.onDataPath f).freeIndex = s.freeIndex := rfl

@[simp] theorem State.onPackage_pending (f : Package → Package) : (s.onPackage f).pending = s.pending := rfl
@[simp] theorem State.onPackage_drives (f : Package → Package) : (s.onPackage f).drives = s.drives := rfl
@[simp] theorem State.onPackage_windows (f : Package → Package) : (s.onPackage f).windows = s.windows := rfl
@[simp] theorem State.onPackage_ports (f : Package → Package) : (s.onPackage f).ports = s.ports := rfl
@[simp] theorem State.onPackage_queue (f : Package → Package) : (s.onPackage f).queue = s.queue := rfl
@[simp] theorem State.onPackage_stringReset (f : Package → Package) : (s.onPackage f).stringReset = s.stringReset := rfl
@[simp] theorem State.onPackage_slots (f : Package → Package) : (s.onPackage f).slots = s.slots := rfl
@[simp] theorem State.onPackage_arbiter (f : Package → Package) : (s.onPackage f).arbiter = s.arbiter := rfl
@[simp] theorem State.onPackage_dataPath (f : Package → Package) : (s.onPackage f).dataPath = s.dataPath := rfl
@[simp] theorem State.onPackage_works (f : Package → Package) : (s.onPackage f).works = s.works := rfl
@[simp] theorem State.onPackage_maps (f : Package → Package) : (s.onPackage f).maps = s.maps := rfl
@[simp] theorem State.onPackage_mapBuffer (f : Package → Package) : (s.onPackage f).mapBuffer = s.mapBuffer := rfl
@[simp] theorem State.onPackage_orders (f : Package → Package) : (s.onPackage f).orders = s.orders := rfl
@[simp] theorem State.onPackage_awaiting (f : Package → Package) : (s.onPackage f).awaiting = s.awaiting := rfl
@[simp] theorem State.onPackage_results (f : Package → Package) : (s.onPackage f).results = s.results := rfl
@[simp] theorem State.onPackage_image (f : Package → Package) : (s.onPackage f).image = s.image := rfl
@[simp] theorem State.onPackage_history (f : Package → Package) : (s.onPackage f).history = s.history := rfl
@[simp] theorem State.onPackage_media (f : Package → Package) : (s.onPackage f).media = s.media := rfl
@[simp] theorem State.onPackage_followUps (f : Package → Package) : (s.onPackage f).followUps = s.followUps := rfl
@[simp] theorem State.onPackage_out (f : Package → Package) : (s.onPackage f).out = s.out := rfl
@[simp] theorem State.onPackage_freeIndex (f : Package → Package) : (s.onPackage f).freeIndex = s.freeIndex := rfl

@[simp] theorem State.onWork_pending (f : Work → Work) : (s.onWork f).pending = s.pending := rfl
@[simp] theorem State.onWork_drives (f : Work → Work) : (s.onWork f).drives = s.drives := rfl
@[simp] theorem State.onWork_windows (f : Work → Work) : (s.onWork f).windows = s.windows := rfl
@[simp] theorem State.onWork_ports (f : Work → Work) : (s.onWork f).ports = s.ports := rfl
@[simp] theorem State.onWork_queue (f : Work → Work) : (s.onWork f).queue = s.queue := rfl
@[simp] theorem State.onWork_stringReset (f : Work → Work) : (s.onWork f).stringReset = s.stringReset := rfl
@[simp] theorem State.onWork_slots (f : Work → Work) : (s.onWork f).slots = s.slots := rfl
@[simp] theorem State.onWork_arbiter (f : Work → Work) : (s.onWork f).arbiter = s.arbiter := rfl
@[simp] theorem State.onWork_dataPath (f : Work → Work) : (s.onWork f).dataPath = s.dataPath := rfl
@[simp] theorem State.onWork_works (f : Work → Work) : (s.onWork f).works = s.works := rfl
@[simp] theorem State.onWork_maps (f : Work → Work) : (s.onWork f).maps = s.maps := rfl
@[simp] theorem State.onWork_mapBuffer (f : Work → Work) : (s.onWork f).mapBuffer = s.mapBuffer := rfl
@[simp] theorem State.onWork_orders (f : Work → Work) : (s.onWork f).orders = s.orders := rfl
@[simp] theorem State.onWork_awaiting (f : Work → Work) : (s.onWork f).awaiting = s.awaiting := rfl
@[simp] theorem State.onWork_results (f : Work → Work) : (s.onWork f).results = s.results := rfl
@[simp] theorem State.onWork_image (f : Work → Work) : (s.onWork f).image = s.image := rfl
@[simp] theorem State.onWork_history (f : Work → Work) : (s.onWork f).history = s.history := rfl
@[simp] theorem State.onWork_media (f : Work → Work) : (s.onWork f).media = s.media := rfl
@[simp] theorem State.onWork_followUps (f : Work → Work) : (s.onWork f).followUps = s.followUps := rfl
@[simp] theorem State.onWork_out (f : Work → Work) : (s.onWork f).out = s.out := rfl
@[simp] theorem State.onWork_freeIndex (f : Work → Work) : (s.onWork f).freeIndex = s.freeIndex := rfl

@[simp] theorem State.setPending_pending (i : Fin 9) (b : Bool) : (s.setPending i b).pending = s.pending := rfl
@[simp] theorem State.setPending_drives (i : Fin 9) (b : Bool) : (s.setPending i b).drives = s.drives := rfl
@[simp] theorem State.setPending_windows (i : Fin 9) (b : Bool) : (s.setPending i b).windows = s.windows := rfl
@[simp] theorem State.setPending_ports (i : Fin 9) (b : Bool) : (s.setPending i b).ports = s.ports := rfl
@[simp] theorem State.setPending_queue (i : Fin 9) (b : Bool) : (s.setPending i b).queue = s.queue := rfl
@[simp] theorem State.setPending_stringReset (i : Fin 9) (b : Bool) : (s.setPending i b).stringReset = s.stringReset := rfl
@[simp] theorem State.setPending_slots (i : Fin 9) (b : Bool) : (s.setPending i b).slots = s.slots := rfl
@[simp] theorem State.setPending_active (i : Fin 9) (b : Bool) : (s.setPending i b).active = s.active := rfl
@[simp] theorem State.setPending_dataPath (i : Fin 9) (b : Bool) : (s.setPending i b).dataPath = s.dataPath := rfl
@[simp] theorem State.setPending_works (i : Fin 9) (b : Bool) : (s.setPending i b).works = s.works := rfl
@[simp] theorem State.setPending_maps (i : Fin 9) (b : Bool) : (s.setPending i b).maps = s.maps := rfl
@[simp] theorem State.setPending_mapBuffer (i : Fin 9) (b : Bool) : (s.setPending i b).mapBuffer = s.mapBuffer := rfl
@[simp] theorem State.setPending_orders (i : Fin 9) (b : Bool) : (s.setPending i b).orders = s.orders := rfl
@[simp] theorem State.setPending_awaiting (i : Fin 9) (b : Bool) : (s.setPending i b).awaiting = s.awaiting := rfl
@[simp] theorem State.setPending_results (i : Fin 9) (b : Bool) : (s.setPending i b).results = s.results := rfl
@[simp] theorem State.setPending_image (i : Fin 9) (b : Bool) : (s.setPending i b).image = s.image := rfl
@[simp] theorem State.setPending_history (i : Fin 9) (b : Bool) : (s.setPending i b).history = s.history := rfl
@[simp] theorem State.setPending_media (i : Fin 9) (b : Bool) : (s.setPending i b).media = s.media := rfl
@[simp] theorem State.setPending_followUps (i : Fin 9) (b : Bool) : (s.setPending i b).followUps = s.followUps := rfl
@[simp] theorem State.setPending_out (i : Fin 9) (b : Bool) : (s.setPending i b).out = s.out := rfl
@[simp] theorem State.setPending_freeIndex (i : Fin 9) (b : Bool) : (s.setPending i b).freeIndex = s.freeIndex := rfl

@[simp] theorem State.emit_pending (o : Output) : (s.emit o).pending = s.pending := rfl
@[simp] theorem State.emit_drives (o : Output) : (s.emit o).drives = s.drives := rfl
@[simp] theorem State.emit_windows (o : Output) : (s.emit o).windows = s.windows := rfl
@[simp] theorem State.emit_ports (o : Output) : (s.emit o).ports = s.ports := rfl
@[simp] theorem State.emit_queue (o : Output) : (s.emit o).queue = s.queue := rfl
@[simp] theorem State.emit_stringReset (o : Output) : (s.emit o).stringReset = s.stringReset := rfl
@[simp] theorem State.emit_slots (o : Output) : (s.emit o).slots = s.slots := rfl
@[simp] theorem State.emit_active (o : Output) : (s.emit o).active = s.active := rfl
@[simp] theorem State.emit_arbiter (o : Output) : (s.emit o).arbiter = s.arbiter := rfl
@[simp] theorem State.emit_dataPath (o : Output) : (s.emit o).dataPath = s.dataPath := rfl
@[simp] theorem State.emit_works (o : Output) : (s.emit o).works = s.works := rfl
@[simp] theorem State.emit_maps (o : Output) : (s.emit o).maps = s.maps := rfl
@[simp] theorem State.emit_mapBuffer (o : Output) : (s.emit o).mapBuffer = s.mapBuffer := rfl
@[simp] theorem State.emit_orders (o : Output) : (s.emit o).orders = s.orders := rfl
@[simp] theorem State.emit_awaiting (o : Output) : (s.emit o).awaiting = s.awaiting := rfl
@[simp] theorem State.emit_results (o : Output) : (s.emit o).results = s.results := rfl
@[simp] theorem State.emit_image (o : Output) : (s.emit o).image = s.image := rfl
@[simp] theorem State.emit_history (o : Output) : (s.emit o).history = s.history := rfl
@[simp] theorem State.emit_media (o : Output) : (s.emit o).media = s.media := rfl
@[simp] theorem State.emit_followUps (o : Output) : (s.emit o).followUps = s.followUps := rfl
@[simp] theorem State.emit_freeIndex (o : Output) : (s.emit o).freeIndex = s.freeIndex := rfl

@[simp] theorem State.sending_pending (l : List Output) : (s.sending l).pending = s.pending := rfl
@[simp] theorem State.sending_drives (l : List Output) : (s.sending l).drives = s.drives := rfl
@[simp] theorem State.sending_windows (l : List Output) : (s.sending l).windows = s.windows := rfl
@[simp] theorem State.sending_ports (l : List Output) : (s.sending l).ports = s.ports := rfl
@[simp] theorem State.sending_queue (l : List Output) : (s.sending l).queue = s.queue := rfl
@[simp] theorem State.sending_stringReset (l : List Output) : (s.sending l).stringReset = s.stringReset := rfl
@[simp] theorem State.sending_slots (l : List Output) : (s.sending l).slots = s.slots := rfl
@[simp] theorem State.sending_active (l : List Output) : (s.sending l).active = s.active := rfl
@[simp] theorem State.sending_arbiter (l : List Output) : (s.sending l).arbiter = s.arbiter := rfl
@[simp] theorem State.sending_dataPath (l : List Output) : (s.sending l).dataPath = s.dataPath := rfl
@[simp] theorem State.sending_works (l : List Output) : (s.sending l).works = s.works := rfl
@[simp] theorem State.sending_maps (l : List Output) : (s.sending l).maps = s.maps := rfl
@[simp] theorem State.sending_mapBuffer (l : List Output) : (s.sending l).mapBuffer = s.mapBuffer := rfl
@[simp] theorem State.sending_orders (l : List Output) : (s.sending l).orders = s.orders := rfl
@[simp] theorem State.sending_awaiting (l : List Output) : (s.sending l).awaiting = s.awaiting := rfl
@[simp] theorem State.sending_results (l : List Output) : (s.sending l).results = s.results := rfl
@[simp] theorem State.sending_image (l : List Output) : (s.sending l).image = s.image := rfl
@[simp] theorem State.sending_history (l : List Output) : (s.sending l).history = s.history := rfl
@[simp] theorem State.sending_media (l : List Output) : (s.sending l).media = s.media := rfl
@[simp] theorem State.sending_followUps (l : List Output) : (s.sending l).followUps = s.followUps := rfl
@[simp] theorem State.sending_freeIndex (l : List Output) : (s.sending l).freeIndex = s.freeIndex := rfl

@[simp] theorem State.onDrive_window' (d : DriveNo) (f : DriveRecord → DriveRecord) (k : DriveNo) : (s.onDrive d f).window k = s.window k := rfl
@[simp] theorem State.onDrive_port' (d : DriveNo) (f : DriveRecord → DriveRecord) (k : Port) : (s.onDrive d f).port k = s.port k := rfl
@[simp] theorem State.onDrive_slot' (d : DriveNo) (f : DriveRecord → DriveRecord) (k : Fin 9) : (s.onDrive d f).slot k = s.slot k := rfl
@[simp] theorem State.onDrive_work' (d : DriveNo) (f : DriveRecord → DriveRecord) (k : DriveNo) : (s.onDrive d f).work k = s.work k := rfl
@[simp] theorem State.onDrive_map' (d : DriveNo) (f : DriveRecord → DriveRecord) (k : DriveNo) : (s.onDrive d f).map k = s.map k := rfl

@[simp] theorem State.onWindow_drive' (d : DriveNo) (f : Arming → Arming) (k : DriveNo) : (s.onWindow d f).drive k = s.drive k := rfl
@[simp] theorem State.onWindow_port' (d : DriveNo) (f : Arming → Arming) (k : Port) : (s.onWindow d f).port k = s.port k := rfl
@[simp] theorem State.onWindow_slot' (d : DriveNo) (f : Arming → Arming) (k : Fin 9) : (s.onWindow d f).slot k = s.slot k := rfl
@[simp] theorem State.onWindow_work' (d : DriveNo) (f : Arming → Arming) (k : DriveNo) : (s.onWindow d f).work k = s.work k := rfl
@[simp] theorem State.onWindow_map' (d : DriveNo) (f : Arming → Arming) (k : DriveNo) : (s.onWindow d f).map k = s.map k := rfl

@[simp] theorem State.onPort_drive' (p : Port) (f : PortUnit → PortUnit) (k : DriveNo) : (s.onPort p f).drive k = s.drive k := rfl
@[simp] theorem State.onPort_window' (p : Port) (f : PortUnit → PortUnit) (k : DriveNo) : (s.onPort p f).window k = s.window k := rfl
@[simp] theorem State.onPort_slot' (p : Port) (f : PortUnit → PortUnit) (k : Fin 9) : (s.onPort p f).slot k = s.slot k := rfl
@[simp] theorem State.onPort_work' (p : Port) (f : PortUnit → PortUnit) (k : DriveNo) : (s.onPort p f).work k = s.work k := rfl
@[simp] theorem State.onPort_map' (p : Port) (f : PortUnit → PortUnit) (k : DriveNo) : (s.onPort p f).map k = s.map k := rfl

@[simp] theorem State.setSlot_drive' (i : Fin 9) (x : Option Package) (k : DriveNo) : (s.setSlot i x).drive k = s.drive k := rfl
@[simp] theorem State.setSlot_window' (i : Fin 9) (x : Option Package) (k : DriveNo) : (s.setSlot i x).window k = s.window k := rfl
@[simp] theorem State.setSlot_port' (i : Fin 9) (x : Option Package) (k : Port) : (s.setSlot i x).port k = s.port k := rfl
@[simp] theorem State.setSlot_work' (i : Fin 9) (x : Option Package) (k : DriveNo) : (s.setSlot i x).work k = s.work k := rfl
@[simp] theorem State.setSlot_map' (i : Fin 9) (x : Option Package) (k : DriveNo) : (s.setSlot i x).map k = s.map k := rfl

@[simp] theorem State.setWork_drive' (d : DriveNo) (w : Option Work) (k : DriveNo) : (s.setWork d w).drive k = s.drive k := rfl
@[simp] theorem State.setWork_window' (d : DriveNo) (w : Option Work) (k : DriveNo) : (s.setWork d w).window k = s.window k := rfl
@[simp] theorem State.setWork_port' (d : DriveNo) (w : Option Work) (k : Port) : (s.setWork d w).port k = s.port k := rfl
@[simp] theorem State.setWork_slot' (d : DriveNo) (w : Option Work) (k : Fin 9) : (s.setWork d w).slot k = s.slot k := rfl
@[simp] theorem State.setWork_map' (d : DriveNo) (w : Option Work) (k : DriveNo) : (s.setWork d w).map k = s.map k := rfl

@[simp] theorem State.onMap_drive' (d : DriveNo) (f : DriveMap → DriveMap) (k : DriveNo) : (s.onMap d f).drive k = s.drive k := rfl
@[simp] theorem State.onMap_window' (d : DriveNo) (f : DriveMap → DriveMap) (k : DriveNo) : (s.onMap d f).window k = s.window k := rfl
@[simp] theorem State.onMap_port' (d : DriveNo) (f : DriveMap → DriveMap) (k : Port) : (s.onMap d f).port k = s.port k := rfl
@[simp] theorem State.onMap_slot' (d : DriveNo) (f : DriveMap → DriveMap) (k : Fin 9) : (s.onMap d f).slot k = s.slot k := rfl
@[simp] theorem State.onMap_work' (d : DriveNo) (f : DriveMap → DriveMap) (k : DriveNo) : (s.onMap d f).work k = s.work k := rfl

@[simp] theorem State.onActive_drive' (f : Active → Active) (k : DriveNo) : (s.onActive f).drive k = s.drive k := rfl
@[simp] theorem State.onActive_window' (f : Active → Active) (k : DriveNo) : (s.onActive f).window k = s.window k := rfl
@[simp] theorem State.onActive_port' (f : Active → Active) (k : Port) : (s.onActive f).port k = s.port k := rfl
@[simp] theorem State.onActive_slot' (f : Active → Active) (k : Fin 9) : (s.onActive f).slot k = s.slot k := rfl
@[simp] theorem State.onActive_work' (f : Active → Active) (k : DriveNo) : (s.onActive f).work k = s.work k := rfl
@[simp] theorem State.onActive_map' (f : Active → Active) (k : DriveNo) : (s.onActive f).map k = s.map k := rfl

@[simp] theorem State.onDataPath_drive' (f : DataPath → DataPath) (k : DriveNo) : (s.onDataPath f).drive k = s.drive k := rfl
@[simp] theorem State.onDataPath_window' (f : DataPath → DataPath) (k : DriveNo) : (s.onDataPath f).window k = s.window k := rfl
@[simp] theorem State.onDataPath_port' (f : DataPath → DataPath) (k : Port) : (s.onDataPath f).port k = s.port k := rfl
@[simp] theorem State.onDataPath_slot' (f : DataPath → DataPath) (k : Fin 9) : (s.onDataPath f).slot k = s.slot k := rfl
@[simp] theorem State.onDataPath_work' (f : DataPath → DataPath) (k : DriveNo) : (s.onDataPath f).work k = s.work k := rfl
@[simp] theorem State.onDataPath_map' (f : DataPath → DataPath) (k : DriveNo) : (s.onDataPath f).map k = s.map k := rfl

@[simp] theorem State.onPackage_drive' (f : Package → Package) (k : DriveNo) : (s.onPackage f).drive k = s.drive k := rfl
@[simp] theorem State.onPackage_window' (f : Package → Package) (k : DriveNo) : (s.onPackage f).window k = s.window k := rfl
@[simp] theorem State.onPackage_port' (f : Package → Package) (k : Port) : (s.onPackage f).port k = s.port k := rfl
@[simp] theorem State.onPackage_slot' (f : Package → Package) (k : Fin 9) : (s.onPackage f).slot k = s.slot k := rfl
@[simp] theorem State.onPackage_work' (f : Package → Package) (k : DriveNo) : (s.onPackage f).work k = s.work k := rfl
@[simp] theorem State.onPackage_map' (f : Package → Package) (k : DriveNo) : (s.onPackage f).map k = s.map k := rfl
@[simp] theorem State.onWork_drive' (f : Work → Work) (k : DriveNo) : (s.onWork f).drive k = s.drive k := rfl
@[simp] theorem State.onWork_window' (f : Work → Work) (k : DriveNo) : (s.onWork f).window k = s.window k := rfl
@[simp] theorem State.onWork_port' (f : Work → Work) (k : Port) : (s.onWork f).port k = s.port k := rfl
@[simp] theorem State.onWork_slot' (f : Work → Work) (k : Fin 9) : (s.onWork f).slot k = s.slot k := rfl
@[simp] theorem State.onWork_work' (f : Work → Work) (k : DriveNo) : (s.onWork f).work k = s.work k := rfl
@[simp] theorem State.onWork_map' (f : Work → Work) (k : DriveNo) : (s.onWork f).map k = s.map k := rfl

@[simp] theorem State.setPending_drive' (i : Fin 9) (b : Bool) (k : DriveNo) : (s.setPending i b).drive k = s.drive k := rfl
@[simp] theorem State.setPending_window' (i : Fin 9) (b : Bool) (k : DriveNo) : (s.setPending i b).window k = s.window k := rfl
@[simp] theorem State.setPending_port' (i : Fin 9) (b : Bool) (k : Port) : (s.setPending i b).port k = s.port k := rfl
@[simp] theorem State.setPending_slot' (i : Fin 9) (b : Bool) (k : Fin 9) : (s.setPending i b).slot k = s.slot k := rfl
@[simp] theorem State.setPending_work' (i : Fin 9) (b : Bool) (k : DriveNo) : (s.setPending i b).work k = s.work k := rfl
@[simp] theorem State.setPending_map' (i : Fin 9) (b : Bool) (k : DriveNo) : (s.setPending i b).map k = s.map k := rfl

@[simp] theorem State.emit_drive' (o : Output) (k : DriveNo) : (s.emit o).drive k = s.drive k := rfl
@[simp] theorem State.emit_window' (o : Output) (k : DriveNo) : (s.emit o).window k = s.window k := rfl
@[simp] theorem State.emit_port' (o : Output) (k : Port) : (s.emit o).port k = s.port k := rfl
@[simp] theorem State.emit_slot' (o : Output) (k : Fin 9) : (s.emit o).slot k = s.slot k := rfl
@[simp] theorem State.emit_work' (o : Output) (k : DriveNo) : (s.emit o).work k = s.work k := rfl
@[simp] theorem State.emit_map' (o : Output) (k : DriveNo) : (s.emit o).map k = s.map k := rfl

@[simp] theorem State.sending_drive' (l : List Output) (k : DriveNo) : (s.sending l).drive k = s.drive k := rfl
@[simp] theorem State.sending_window' (l : List Output) (k : DriveNo) : (s.sending l).window k = s.window k := rfl
@[simp] theorem State.sending_port' (l : List Output) (k : Port) : (s.sending l).port k = s.port k := rfl
@[simp] theorem State.sending_slot' (l : List Output) (k : Fin 9) : (s.sending l).slot k = s.slot k := rfl
@[simp] theorem State.sending_work' (l : List Output) (k : DriveNo) : (s.sending l).work k = s.work k := rfl
@[simp] theorem State.sending_map' (l : List Output) (k : DriveNo) : (s.sending l).map k = s.map k := rfl

end

/-! ## The part an update sets -/

theorem State.onDrive_drive (s : State) (d k : DriveNo) (f : DriveRecord → DriveRecord) :
    (s.onDrive d f).drive k = if d = k then f (s.drive d) else s.drive k := by
  simp only [State.onDrive, State.drive, Fin.getElem_fin, Vector.getElem_set]
  by_cases h : d = k
  · subst h; simp
  · have : d.val ≠ k.val := fun e => h (Fin.ext e)
    simp [h, this]

@[simp] theorem State.onDrive_drive_self (s : State) (d : DriveNo) (f : DriveRecord → DriveRecord) :
    (s.onDrive d f).drive d = f (s.drive d) := by simp [State.onDrive_drive]

theorem State.onWindow_window (s : State) (d k : DriveNo) (f : Arming → Arming) :
    (s.onWindow d f).window k = if d = k then f (s.window d) else s.window k := by
  simp only [State.onWindow, State.window, Fin.getElem_fin, Vector.getElem_set]
  by_cases h : d = k
  · subst h; simp
  · have : d.val ≠ k.val := fun e => h (Fin.ext e)
    simp [h, this]

@[simp] theorem State.onWindow_window_self (s : State) (d : DriveNo) (f : Arming → Arming) :
    (s.onWindow d f).window d = f (s.window d) := by simp [State.onWindow_window]

theorem portIndex_injective (p q : Port) (h : portIndex p = portIndex q) : p = q := by
  cases p <;> cases q <;> first | rfl | exact absurd h (by decide)

theorem State.onPort_port (s : State) (p q : Port) (f : PortUnit → PortUnit) :
    (s.onPort p f).port q = if p = q then f (s.port p) else s.port q := by
  simp only [State.onPort, State.port, Fin.getElem_fin, Vector.getElem_set]
  by_cases h : p = q
  · subst h; simp
  · have : (portIndex p).val ≠ (portIndex q).val := fun e => h (portIndex_injective p q (Fin.ext e))
    simp [h, this]

@[simp] theorem State.onPort_port_self (s : State) (p : Port) (f : PortUnit → PortUnit) :
    (s.onPort p f).port p = f (s.port p) := by simp [State.onPort_port]

theorem State.setSlot_slot (s : State) (i k : Fin 9) (x : Option Package) :
    (s.setSlot i x).slot k = if i = k then x else s.slot k := by
  simp only [State.setSlot, State.slot, Fin.getElem_fin, Vector.getElem_set]
  by_cases h : i = k
  · subst h; simp
  · have : i.val ≠ k.val := fun e => h (Fin.ext e)
    simp [h, this]

@[simp] theorem State.setSlot_slot_self (s : State) (i : Fin 9) (x : Option Package) :
    (s.setSlot i x).slot i = x := by simp [State.setSlot_slot]

theorem State.setWork_work (s : State) (d k : DriveNo) (w : Option Work) :
    (s.setWork d w).work k = if d = k then w else s.work k := by
  simp only [State.setWork, State.work, Fin.getElem_fin, Vector.getElem_set]
  by_cases h : d = k
  · subst h; simp
  · have : d.val ≠ k.val := fun e => h (Fin.ext e)
    simp [h, this]

@[simp] theorem State.setWork_work_self (s : State) (d : DriveNo) (w : Option Work) :
    (s.setWork d w).work d = w := by simp [State.setWork_work]

theorem State.onMap_map (s : State) (d k : DriveNo) (f : DriveMap → DriveMap) :
    (s.onMap d f).map k = if d = k then f (s.map d) else s.map k := by
  simp only [State.onMap, State.map, Fin.getElem_fin, Vector.getElem_set]
  by_cases h : d = k
  · subst h; simp
  · have : d.val ≠ k.val := fun e => h (Fin.ext e)
    simp [h, this]

@[simp] theorem State.onMap_map_self (s : State) (d : DriveNo) (f : DriveMap → DriveMap) :
    (s.onMap d f).map d = f (s.map d) := by simp [State.onMap_map]

@[simp] theorem State.onActive_active (s : State) (f : Active → Active) :
    (s.onActive f).active = s.active.map f := rfl

@[simp] theorem Connected.mapPackage_host (p : Package) (i : Fin 9) (f : Package → Package) :
    (Connected.host p i).mapPackage f = .host (f p) i := rfl

@[simp] theorem Connected.mapPackage_work (w : Work) (f : Package → Package) :
    (Connected.work w).mapPackage f = .work w := rfl

@[simp] theorem Connected.mapWork_work (w : Work) (f : Work → Work) : (Connected.work w).mapWork f = .work (f w) := rfl

@[simp] theorem Connected.mapWork_host (p : Package) (i : Fin 9) (f : Work → Work) :
    (Connected.host p i).mapWork f = .host p i := rfl

@[simp] theorem State.onPackage_active (s : State) (f : Package → Package) :
    (s.onPackage f).active = s.active.map fun a => { a with conn := a.conn.mapPackage f } := rfl

@[simp] theorem State.onWork_active (s : State) (f : Work → Work) :
    (s.onWork f).active = s.active.map fun a => { a with conn := a.conn.mapWork f } := rfl

@[simp] theorem State.onDataPath_dataPath (s : State) (f : DataPath → DataPath) :
    (s.onDataPath f).dataPath = f s.dataPath := rfl

@[simp] theorem State.sending_out (s : State) (l : List Output) : (s.sending l).out = l := rfl

@[simp] theorem State.sending_emit (s : State) (l : List Output) (o : Output) :
    (s.sending l).emit o = s.sending (l ++ [o]) := rfl

@[simp] theorem State.emit_out (s : State) (o : Output) : (s.emit o).out = s.out ++ [o] := rfl

@[simp] theorem State.setPending_arbiter (s : State) (i : Fin 9) (b : Bool) :
    (s.setPending i b).arbiter = { s.arbiter with pendingSet := s.arbiter.pendingSet.set i b } := rfl

/-! ## The unanswered command of a drive -/

/-- A running limit tells which command is unanswered. -/
theorem DriveRecord.unanswered_of_running (r : DriveRecord) (h : r.timer ≠ .stopped) : r.unanswered = r.timer := by
  simp [DriveRecord.unanswered, h]

/-- Outside LOADING-MAP the limit alone tells which command is unanswered. -/
theorem DriveRecord.unanswered_of_state (r : DriveRecord) (h : r.state ≠ .loadingMap) : r.unanswered = r.timer := by
  simp [DriveRecord.unanswered, h]

/-- With the limit telling the unanswered command, nothing is recalled. -/
theorem State.recallLoad_eq_self (s : State) (d : DriveNo) (h : (s.drive d).unanswered = (s.drive d).timer) :
    s.recallLoad d = s := by simp [State.recallLoad, h]

/-- What recalling a map load's command can do: nothing, or to change the limit, the target and `loadAwaits` of its own
drive. -/
theorem State.recallLoad_eq (s : State) (d : DriveNo) : s.recallLoad d = s ∨
    s.recallLoad d = s.onDrive d fun r =>
      { r with timer := r.loadAwaits, target := loadTarget r.loadAwaits, loadAwaits := .stopped } := by
  unfold State.recallLoad; split <;> simp

/-! ## Turns -/

@[simp] theorem Turn.upd_st (t : Turn) (f : State → State) : (t.upd f).st = f t.st := rfl
@[simp] theorem Turn.upd_todo (t : Turn) (f : State → State) : (t.upd f).todo = t.todo := rfl
@[simp] theorem Turn.push_st (t : Turn) (x : Task) : (t.push x).st = t.st := rfl
@[simp] theorem Turn.push_todo (t : Turn) (x : Task) : (t.push x).todo = insertTask x t.todo := rfl
@[simp] theorem insertTask_nil (x : Task) : insertTask x [] = [x] := rfl
@[simp] theorem insertTask_cons (x y : Task) (l : List Task) :
    insertTask x (y :: l) = if Task.rank x < Task.rank y then x :: y :: l else y :: insertTask x l := rfl

/-- A new follow-up comes behind those it was put behind, and before the rest; none is lost. -/
theorem insertTask_eq (x : Task) (l : List Task) :
    ∃ a b, l = a ++ b ∧ insertTask x l = a ++ x :: b ∧ ∀ y ∈ a, Task.rank y ≤ Task.rank x := by
  induction l with
  | nil => exact ⟨[], [], rfl, rfl, by simp⟩
  | cons y l ih =>
    by_cases h : Task.rank x < Task.rank y
    · exact ⟨[], y :: l, rfl, by simp [h], by simp⟩
    · obtain ⟨a, b, rfl, hi, ha⟩ := ih
      exact ⟨y :: a, b, rfl, by simp [h, hi], by simpa using ⟨by omega, ha⟩⟩

/-- Where a new follow-up is taken later than all that is due, it joins the end. -/
theorem insertTask_last (x : Task) (l : List Task) (h : ∀ y ∈ l, Task.rank y ≤ Task.rank x) :
    insertTask x l = l ++ [x] := by
  induction l with
  | nil => rfl
  | cons y l ih =>
    have : ¬ Task.rank x < Task.rank y := by have := h y (by simp); omega
    simp [this, ih fun z hz => h z (by simp [hz])]

end Sys2Proof.Machine
end

