-- ==== Sys2Proof/Laws/Due.lean ====
section
/-! SUPPORT. What is due at a drive whose context is not connected, what arming a window does, and searches of the Request
Queue. -/

namespace Sys2Proof.Machine

/-! ## Nothing is due -/

/-- No end of work is taken at a drive whose work has no result. -/
theorem anyWorkEnd_none (d : DriveNo) (t : Turn) (h : ∀ w, t.st.work d = some w → w.result = none) :
    anyWorkEnd d t = t := by
  have hw : ∀ ks, t.st.workEnd d ks = none := by
    intro ks
    unfold State.workEnd
    split
    · rename_i w hw
      simp [h w hw]
    · rfl
  simp [anyWorkEnd, sparingMarkEnd, sparingWriteVerifyEnd, sparingReadEnd, mapWriteEnd, mapLoadEnd, hw]

/-- Nothing is due at a drive away from the data path. -/
theorem takeDue_away (d : DriveNo) (t : Turn) (h : AwayFromPath t.st d) : takeDue d t = t := by
  have h1 : t.st.active.any (fun a => a.drive = d) = false := by
    cases ha : t.st.active with
    | none => rfl
    | some a => simpa using h.1 a ha
  unfold takeDue
  simp only [h1, Bool.false_eq_true, if_false]
  exact anyWorkEnd_none d t h.2

/-! ## Drive bus commands and windows -/

theorem State.headSelect_eq (s : State) (d : DriveNo) (h : Nat) :
    s.headSelect d h = State.onDrive { s with out := s.out ++ [.bus d (.headSelect h)] } d fun r => { r with head := h } :=
  rfl

theorem State.sendOffset_eq (s : State) (d : DriveNo) (o : Offset) :
    s.sendOffset d o = State.onDrive { s with out := s.out ++ [.bus d (.offset o)] } d fun r => { r with offset := o } :=
  rfl

theorem State.seek_eq (s : State) (d : DriveNo) (c : Nat) :
    s.seek d c = State.onDrive { s with out := s.out ++ [.bus d (.seek c)] } d fun r =>
      { r with offset := .none, target := some c, timer := .ms120 } := rfl

theorem State.recalibrate_eq (s : State) (d : DriveNo) :
    s.recalibrate d = State.onDrive { s with out := s.out ++ [.bus d .recalibrate] } d fun r =>
      { r with offset := .none, target := some 0, timer := .ms500 } := rfl

theorem State.openWindow_eq (s : State) (d : DriveNo) :
    s.openWindow d = { s with
      windows := s.windows.set d { s.window d with state := .pending }
      arbiter := { s.arbiter with pendingSet := s.arbiter.pendingSet.set (driveSlot d) true } } := rfl

theorem State.disarm_eq (s : State) (d : DriveNo) :
    s.disarm d = { s with
      windows := s.windows.set d { s.window d with state := .disarmed }
      arbiter := { s.arbiter with pendingSet := s.arbiter.pendingSet.set (driveSlot d) false } } := rfl

/-- Arming: the window is PENDING and its drive in the pending set when it opens at once, otherwise WAITING. -/
theorem State.armWindow_eq (s : State) (d : DriveNo) (b l : Nat) (h : Bool) : s.armWindow d b l h =
    if (s.drive d).rotationKnown && (h || (s.drive d).angle = windowSector b l) then
      { s with
        windows := s.windows.set d ⟨.pending, b, windowSector b l, h⟩
        arbiter := { s.arbiter with pendingSet := s.arbiter.pendingSet.set (driveSlot d) true } }
    else { s with windows := s.windows.set d ⟨.waiting, b, windowSector b l, h⟩ } := by
  have hd : (s.onWindow d fun _ => ⟨.waiting, b, windowSector b l, h⟩).drive d = s.drive d := rfl
  unfold State.armWindow
  simp only [hd]
  split
  · simp [State.openWindow, State.onWindow, State.setPending]
  · simp [State.onWindow]

/-! ## Searches -/

/-- No order in S4 to S6, no image service. -/
theorem State.imageOrder_none (s : State) (h : NoImageOrder s) : s.imageOrder = none := by
  unfold State.imageOrder
  have : (s.orders.find? fun o => o.step = .s4 || o.step = .s5 || o.step = .s6) = none := by
    rw [List.find?_eq_none]
    intro o ho
    have := h o ho
    simp [this]
  simp [this]

/-- The oldest entry of a port for a drive is such an entry. -/
theorem State.oldest_mem (s : State) (p : Port) (d : DriveNo) (e : Entry) (h : s.oldest p d = some e) :
    e ∈ s.queue ∧ e.port = p ∧ e.request.drive = d := by
  unfold State.oldest at h
  have h1 := List.mem_of_find?_eq_some h
  have h2 := List.find?_some h
  simp at h2
  exact ⟨h1, h2⟩

/-- A request that no check refuses finds no string reset in progress. -/
theorem State.not_resetting_of_admitted (s : State) (p : Port) (x : HostExchange) (h : s.refusal p x = none)
    (hx : x ≠ .collect) : s.stringReset = none := by
  unfold State.refusal at h
  cases hs : s.stringReset
  · rfl
  · simp [State.resetting, hs, hx] at h

end Sys2Proof.Machine
end

