-- ==== Sys2Proof/Laws/Media.lean ====
section
/-! SUPPORT. The laws of the media: a read after a write, and the canonical form. -/

namespace Sys2Proof.Machine

theorem mediaRead_put (m : List MediaCell) (k j : Nat) (r : Recorded) :
    mediaRead (mediaPut m k r) j = if k = j then r else mediaRead m j := by
  induction m with
  | nil => simp only [mediaPut, mediaRead]
  | cons c m ih =>
    obtain ⟨a, x⟩ := c
    simp only [mediaPut]
    split
    · simp only [mediaRead]
    · split
      · simp only [mediaRead]; by_cases h : k = j <;> simp_all
      · simp only [mediaRead, ih]; by_cases h : a = j <;> by_cases h' : k = j <;> simp_all

theorem mediaRead_of_above (m : List MediaCell) (k : Nat) (h : mediaAbove k m = true) :
    mediaRead m k = factoryBlock k := by
  induction m with
  | nil => rfl
  | cons c m ih =>
    obtain ⟨a, x⟩ := c
    simp only [mediaAbove, Bool.and_eq_true, decide_eq_true_eq] at h
    have : a ≠ k := by omega
    simp only [mediaRead, this, if_false, ih h.2]

theorem mediaAbove_mono (m : List MediaCell) (j k : Nat) (h : mediaAbove k m = true) (hj : j ≤ k) :
    mediaAbove j m = true := by
  induction m with
  | nil => rfl
  | cons c m ih =>
    obtain ⟨a, x⟩ := c
    simp only [mediaAbove, Bool.and_eq_true, decide_eq_true_eq] at h ⊢
    exact ⟨by omega, ih h.2⟩

theorem mediaAbove_put (m : List MediaCell) (j k : Nat) (r : Recorded) (h : mediaAbove j m = true) (hj : j < k) :
    mediaAbove j (mediaPut m k r) = true := by
  induction m with
  | nil => simp [mediaPut, mediaAbove, hj]
  | cons c m ih =>
    obtain ⟨a, x⟩ := c
    simp only [mediaAbove, Bool.and_eq_true, decide_eq_true_eq] at h
    simp only [mediaPut]
    split
    · simp [mediaAbove, hj, h.1, h.2]
    · split
      · simp [mediaAbove, hj, h.2]
      · simp [mediaAbove, h.1, ih h.2]

theorem mediaAbove_drop (m : List MediaCell) (j k : Nat) (h : mediaAbove j m = true) :
    mediaAbove j (mediaDrop m k) = true := by
  induction m with
  | nil => rfl
  | cons c m ih =>
    obtain ⟨a, x⟩ := c
    simp only [mediaAbove, Bool.and_eq_true, decide_eq_true_eq] at h
    simp only [mediaDrop]
    split
    · exact h.2
    · simp [mediaAbove, h.1, ih h.2]

theorem mediaCanonical_put (m : List MediaCell) (k : Nat) (r : Recorded) (h : mediaCanonical m = true)
    (hr : r ≠ factoryBlock k) : mediaCanonical (mediaPut m k r) = true := by
  induction m with
  | nil => simp [mediaPut, mediaCanonical, mediaAbove, hr]
  | cons c m ih =>
    obtain ⟨a, x⟩ := c
    simp only [mediaCanonical, Bool.and_eq_true, decide_eq_true_eq] at h
    obtain ⟨⟨h1, h2⟩, h3⟩ := h
    simp only [mediaPut]
    split
    · rename_i hk
      simp only [mediaCanonical, mediaAbove, Bool.and_eq_true, decide_eq_true_eq]
      exact ⟨⟨⟨hk, mediaAbove_mono m k a h1 (by omega)⟩, hr⟩, ⟨h1, h2⟩, h3⟩
    · split
      · rename_i hk
        subst hk
        simp only [mediaCanonical, Bool.and_eq_true, decide_eq_true_eq]
        exact ⟨⟨h1, hr⟩, h3⟩
      · simp only [mediaCanonical, Bool.and_eq_true, decide_eq_true_eq]
        exact ⟨⟨mediaAbove_put m a k r h1 (by omega), h2⟩, ih h3⟩

theorem mediaCanonical_drop (m : List MediaCell) (k : Nat) (h : mediaCanonical m = true) :
    mediaCanonical (mediaDrop m k) = true := by
  induction m with
  | nil => rfl
  | cons c m ih =>
    obtain ⟨a, x⟩ := c
    simp only [mediaCanonical, Bool.and_eq_true, decide_eq_true_eq] at h
    simp only [mediaDrop]
    split
    · exact h.2
    · simp only [mediaCanonical, Bool.and_eq_true, decide_eq_true_eq]
      exact ⟨⟨mediaAbove_drop m a k h.1.1, h.1.2⟩, ih h.2⟩

theorem mediaRead_drop (m : List MediaCell) (k j : Nat) (h : mediaCanonical m = true) :
    mediaRead (mediaDrop m k) j = if k = j then factoryBlock j else mediaRead m j := by
  induction m with
  | nil => simp [mediaDrop, mediaRead]
  | cons c m ih =>
    obtain ⟨a, x⟩ := c
    simp only [mediaCanonical, Bool.and_eq_true, decide_eq_true_eq] at h
    obtain ⟨⟨h1, h2⟩, h3⟩ := h
    simp only [mediaDrop]
    split
    · rename_i hk
      subst hk
      by_cases hj : a = j
      · subst hj; simp [mediaRead_of_above m a h1]
      · simp [mediaRead, hj]
    · simp only [mediaRead, ih h3]
      by_cases h : a = j <;> by_cases h' : k = j <;> simp_all

/-- Every recording keeps the canonical form. -/
theorem mediaWrite_canonical (m : List MediaCell) (k : Nat) (r : Recorded) (h : mediaCanonical m = true) :
    mediaCanonical (mediaWrite m k r) = true := by
  unfold mediaWrite
  split
  · exact mediaCanonical_drop m k h
  · exact mediaCanonical_put m k r h (by assumption)

theorem State.record_canonical (s : State) (d : DriveNo) (t : Track) (b : Nat) (r : Recorded)
    (h : mediaCanonical s.media = true) : mediaCanonical (s.record d t b r).media = true :=
  mediaWrite_canonical _ _ _ h

theorem State.disturb_canonical (s : State) (d : DriveNo) (t : Track) (b : Nat) (w : Bool)
    (h : mediaCanonical s.media = true) : mediaCanonical (s.disturb d t b w).media = true :=
  mediaWrite_canonical _ _ _ h

theorem reset_media_canonical : mediaCanonical State.reset.media = true := rfl

end Sys2Proof.Machine
end

