-- ==== Sys2Proof/Laws/Settle.lean ====
section
/-! SUPPORT. How a command's step starts and closes: the follow-ups, one by one. -/

namespace Sys2Proof.Machine

@[simp] theorem settle_nil (n : Nat) (s : State) : settle n ⟨s, []⟩ = ⟨s, []⟩ := by
  cases n <;> rfl

theorem settle_cons (n : Nat) (s : State) (x : Task) (l : List Task) :
    settle (n + 1) ⟨s, x :: l⟩ = settle n (runTask x ⟨s, l⟩) := rfl

/-- A property that every follow-up keeps holds when the follow-ups have been taken. -/
theorem settle_induction (P : State → Prop) (h : ∀ x t, P t.st → P (runTask x t).st) :
    ∀ n t, P t.st → P (settle n t).st
  | 0, _, ht => ht
  | n + 1, t, ht => by
    unfold settle
    split
    · exact ht
    · exact settle_induction P h n _ (h _ _ ht)

theorem Turn.close_nil (s : State) (h : s.followUps = []) : (Turn.mk s []).close = s := by
  cases s; simp_all [Turn.close]

theorem Turn.start_nil (s : State) (h : s.followUps = []) : Turn.start s = ⟨s.sending [], []⟩ := by
  cases s; simp_all [Turn.start, State.sending]

/-- A command on a state with nothing left over: its effect, then the follow-ups it has set off. -/
theorem complete_of_settled (f : Turn → Turn) (s : State) (h : s.followUps = []) :
    complete f s = .next (f ⟨s.sending [], []⟩).close := by
  rw [complete, Turn.start_nil s h]

/-- Taking the first follow-up of a step. -/
theorem Turn.close_cons (s : State) (x : Task) (l : List Task) (t : Turn)
    (h : runTask x ⟨s, l⟩ = t) : (Turn.mk s (x :: l)).close =
      { (settle 999 t).st with followUps := (settle 999 t).todo } := by
  subst h; rfl

/-! ## Follow-ups that change nothing -/

theorem offer_busy (d : DriveNo) (t : Turn) (h : (t.st.drive d).state ≠ .idle) : offer d t = t := by
  have : t.st.available d = false := by simp [State.available, h]
  simp [offer, this]

theorem offer_resetting (d : DriveNo) (t : Turn) (h : t.st.stringReset.isSome = true) : offer d t = t := by
  have : t.st.available d = false := by simp [State.available, State.resetting, h]
  simp [offer, this]

/-- An offer that finds no order, no request, and the rotation known. -/
theorem offer_nothing (d : DriveNo) (t : Turn) (ho : t.st.oldestOrder d = none) (hc : t.st.chosen d = none)
    (hr : (t.st.drive d).rotationKnown = true) : offer d t = t := by
  unfold offer
  split
  · simp [ho, State.choose, hr, hc, Turn.upd]
  · rfl

theorem passThrough_none (p : Port) (d : DriveNo) (t : Turn) (h : t.st.oldest p d = none) :
    passThrough p d t = t := by
  unfold passThrough; simp [h]

theorem passThrough_waits (p : Port) (d : DriveNo) (t : Turn)
    (h : ∀ e, t.st.oldest p d = some e → t.st.passRecord e = none) : passThrough p d t = t := by
  unfold passThrough
  split
  · rfl
  · split
    · rename_i e he
      simp [h e he]
    · rfl

theorem imageDispatch_none (s : State) (h : s.imageOrder = none) : s.imageDispatch = s := by
  unfold State.imageDispatch; simp [h]

end Sys2Proof.Machine
end

