-- ==== Sys2Proof/Laws/Ports.lean ====
section
/-! SUPPORT. What the Port Units' shared operations do: taking an exchange on a free link, refusals, answers. -/

namespace Sys2Proof.Machine

/-- Changing the link state alone changes nothing else of a port. -/
theorem State.onPort_eq_self (s : State) (p : Port) (f : PortUnit → PortUnit) (h : f (s.port p) = s.port p) :
    s.onPort p f = s := by
  have h' : f s.ports[portIndex p] = s.ports[portIndex p] := h
  cases s
  simp_all [State.onPort]

theorem State.onPort_onPort (s : State) (p : Port) (f g : PortUnit → PortUnit) :
    (s.onPort p f).onPort p g = s.onPort p fun u => g (f u) := by
  cases s
  simp [State.onPort]

theorem endLingering_idle (s : State) (p : Port) (h : (s.port p).link = .idle) : s.endLingering p = s := by
  simp [State.endLingering, State.lingers, h]

theorem takeWaiting_none (p : Port) (t : Turn) (h : (t.st.port p).waiting = none) : takeWaiting p t = t := by
  unfold takeWaiting
  split
  · simp_all
  · rfl

/-- An exchange presented on a free link is taken. -/
theorem present_free (p : Port) (x : Presented) (t : Turn) (h : LinkFree t.st p) :
    present p x t = takeExchange p x t := by
  have h1 : (t.upd fun s => s.endLingering p) = t := by
    simp [Turn.upd, endLingering_idle _ _ h.1]
  unfold present
  simp only [h1, takeWaiting_none p t h.2.1, h.1]

/-- The checks of R68 do not look at the link state, nor at the reply it carries. -/
theorem refusal_link (s : State) (p : Port) (l : LinkState) (m : Option Message) (x : HostExchange) :
    (s.onPort p fun u => { u with link := l, reply := m }).refusal p x = s.refusal p x := by
  have hd : ∀ d, (s.onPort p fun u => { u with link := l, reply := m }).drive d = s.drive d := fun d => rfl
  have hq : (s.onPort p fun u => { u with link := l, reply := m }).queue = s.queue := rfl
  have hr : (s.onPort p fun u => { u with link := l, reply := m }).stringReset = s.stringReset := rfl
  have hp : (s.onPort p fun u => { u with link := l, reply := m }).port p = { s.port p with link := l, reply := m } := by
    simp
  simp only [State.refusal, State.resetting, State.notPermitted, State.noDrive, State.reservedElsewhere,
    State.overLimit, State.tagInUse, hd, hq, hr, hp]
  rcases x with ⟨k, m⟩ | _ | _ | _ | _ | _ | _ <;> rfl

/-- Taking a refused exchange: its Answer, and nothing else. -/
theorem takeExchange_refused (p : Port) (x : Presented) (t : Turn) (r : AnswerResult)
    (h : t.st.refusal p x.exchange = some r) :
    takeExchange p x t =
      t.upd fun s => ((s.onPort p fun u => { u with link := .exchange, reply := none }).answer p x.exchange r).afterExchange
        p x.lingers := by
  unfold takeExchange
  simp [refusal_link, h, Turn.upd]

/-- Taking an exchange that no check refuses. -/
theorem takeExchange_admitted (p : Port) (x : Presented) (t : Turn) (h : t.st.refusal p x.exchange = none) :
    takeExchange p x t =
      (admitted p x.exchange (t.upd fun s => s.onPort p fun u => { u with link := .exchange, reply := none })).upd fun s =>
        s.afterExchange p x.lingers := by
  unfold takeExchange
  simp [refusal_link, h]

/-! ## The reply -/

@[simp] theorem State.reply_port_self (s : State) (p : Port) (m : Message) :
    (s.reply p m).port p = { s.port p with reply := some m } := by simp [State.reply]

/-- Giving the reply that the link carries: it goes out, and the link is IDLE. -/
theorem State.giveReply_some (s : State) (p : Port) (m : Message) (h : (s.port p).reply = some m) :
    s.giveReply p = (s.emit (.message p m)).onPort p fun u => { u with link := .idle, reply := none } := by
  simp [State.giveReply, h]

theorem State.giveReply_none (s : State) (p : Port) (h : (s.port p).reply = none) :
    s.giveReply p = s.onPort p fun u => { u with link := .idle, reply := none } := by
  simp [State.giveReply, h]

/-- An exchange whose reply lingers, or that awaits the Answer of a string reset, stands as it is. -/
theorem afterExchange_lingers (s : State) (p : Port) : s.afterExchange p true = s := by simp [State.afterExchange]

theorem afterExchange_given (s : State) (p : Port) (h : s.awaitsReset p = false) :
    s.afterExchange p false = s.giveReply p := by simp [State.afterExchange, h]

/-- An exchange on a free link that has its reply stands as `State.replying` says. -/
theorem afterExchange_reply (s : State) (p : Port) (m : Message) (lingers : Bool) (h : LinkFree s p) :
    ((s.onPort p fun u => { u with link := .exchange, reply := none }).reply p m).afterExchange p lingers =
      s.replying p m lingers := by
  obtain ⟨hl, -, ha, hr⟩ := h
  have ha' : ((s.onPort p fun u => { u with link := .exchange, reply := none }).reply p m).awaitsReset p = false := ha
  cases lingers
  · rw [afterExchange_given _ _ ha', State.giveReply_some _ _ m (by simp)]
    have hs : (s.emit (.message p m)).onPort p (fun u => { u with link := .idle, reply := none }) =
        s.emit (.message p m) :=
      State.onPort_eq_self _ _ _ (by
        show ({ s.port p with link := .idle, reply := none } : PortUnit) = s.port p
        rw [← hl, ← hr])
    simp only [State.replying, Bool.false_eq_true, if_false]
    rw [← hs]
    simp [State.reply, State.emit, State.onPort]
  · simp [afterExchange_lingers, State.replying, State.reply, State.onPort_onPort]

end Sys2Proof.Machine
end

