-- ==== Sys2Proof/Tests/Slice0.lean ====
section
/-! SUPPORT. Tests: ill-formed commands are refused, the manual's worked figures come out, and each statement's hypotheses
are met by a concrete state. Expected results are the manual's own. -/

namespace Sys2Proof.Tests

open Sys2Proof.Machine

/-! ## Helpers -/

def noFlags : ModeFlags := ⟨false, false, false, false, false, false⟩

/-- A read of four blocks of 100/2 on drive 0, from block 3. -/
def read4 : DriveRequest := ⟨5, 0, 100, 2, 3, 4, noFlags⟩

/-- The state after reset with drive 0 as given. -/
def withDrive (f : DriveRecord → DriveRecord) : State := State.reset.onDrive 0 f

/-- Drive 0 ready, at rest at cylinder 100, its rotation known. -/
def ready (r : DriveRecord) : DriveRecord :=
  { r with state := .idle, cylinder := 100, angle := 40, rotationKnown := true, mapState := .loaded }

def idleUnit : State := withDrive ready

/-- Drive 0 in another state. -/
def unitIn (state : DriveState) : State := withDrive fun r => { ready r with state := state }

/-- The state after a command. -/
def after (c : Instr) (s : State) : State :=
  match exec c s with
  | .next t => t
  | .fault _ => s
  | .refused _ => s

/-! ## WellFormed refuses what does not fit its field -/

theorem test_wf_accepts : (Instr.readBlocks .A ⟨63, 7, 1023, 15, 31, 127, noFlags⟩ false).wellFormed = true := by decide
theorem test_wf_tag : (Instr.readBlocks .A { read4 with tag := 64 } false).wellFormed = false := by decide
theorem test_wf_cylinder : (Instr.writeBlocks .A { read4 with cyl := 1024 } false).wellFormed = false := by decide
theorem test_wf_head : (Instr.spareTrack .A { read4 with head := 16 } false).wellFormed = false := by decide
theorem test_wf_firstBlock : (Instr.readBlocks .A { read4 with firstBlock := 32 } false).wellFormed = false := by decide
theorem test_wf_count : (Instr.readBlocks .A { read4 with count := 128 } false).wellFormed = false := by decide
theorem test_wf_sense_tag : (Instr.senseDrive .A 64 0 false).wellFormed = false := by decide
theorem test_wf_reserve_tag : (Instr.reserveDrive .A 64 0 false).wellFormed = false := by decide
theorem test_wf_release_tag : (Instr.releaseDrive .A 64 0 false).wellFormed = false := by decide
theorem test_wf_reset_tag : (Instr.resetString .A 64 false).wellFormed = false := by decide
theorem test_wf_unknown_tag : (Instr.unknownKindRequest .A 4 64 false).wellFormed = false := by decide
theorem test_wf_known_kind : (Instr.unknownKindRequest .A 8 1 false).wellFormed = false := by decide
theorem test_wf_kind_width : (Instr.unknownKindRequest .A 16 1 false).wellFormed = false := by decide
theorem test_wf_positioned : (Instr.positioned 0 656).wellFormed = false := by decide

/-- A mark that brings in an identity field. -/
def markWith (f : IdField) : MarkInput := ⟨some ⟨f, .generated⟩, none, false, 0#4096⟩

/-- A mark that brings in nothing beside itself. -/
def bare : MarkInput := ⟨none, none, false, 0#4096⟩

theorem test_wf_field_cylinder : (Instr.sectorMark 0 (markWith ⟨656, 0, 0, .normal, none, false⟩)).wellFormed = false := by
  decide
theorem test_wf_field_head : (Instr.sectorMark 0 (markWith ⟨0, 12, 0, .normal, none, false⟩)).wellFormed = false := by
  decide
theorem test_wf_field_block : (Instr.indexMark 0 (markWith ⟨0, 0, 24, .normal, none, false⟩)).wellFormed = false := by
  decide
theorem test_wf_link_cylinder :
    (Instr.indexMark 0 (markWith ⟨0, 0, 0, .normal, some ⟨656, 0⟩, false⟩)).wellFormed = false := by decide
theorem test_wf_link_head :
    (Instr.indexMark 0 (markWith ⟨0, 0, 0, .normal, some ⟨640, 12⟩, false⟩)).wellFormed = false := by decide

/-- The table gives no bits: no word spells a command. -/
theorem test_decode_none : decodeTableWord 8 0 = none := by decide

/-! ## The manual's worked figures -/

/-- R21: alternate 14 is physical track 641/2. -/
theorem test_alternate_14 : alternateTrack 14 = ⟨641, 2⟩ ∧ alternateIndex ⟨641, 2⟩ = some 14 := by decide

/-- R49's table of estimates. -/
theorem test_seek_estimates :
    [1, 31, 16, 32, 100, 330, 541].map seekEstimate = [42, 102, 72, 104, 127, 204, 274] := by decide

/-- 3.9.1 and 3.9.3: the estimates of the three reads, and of the write in place of the first. -/
theorem test_first_choice : accessEstimate 130 100 40 5 2 = 170 ∧ accessEstimate 641 100 40 12 2 = 294 ∧
    accessEstimate 100 100 40 10 2 = 94 ∧ accessEstimate 130 100 40 5 (hostLead .writeBlocks false .three) = 166 := by
  decide

/-- 3.9.2: the estimates of the second choice. -/
theorem test_second_choice : accessEstimate 130 100 56 5 2 = 154 ∧ accessEstimate 641 100 56 12 2 = 278 := by decide

/-- 3.9.4: the estimates at the limits. -/
theorem test_estimates_at_limits : accessEstimate 212 212 22 6 2 = 0 ∧ accessEstimate 212 212 23 6 2 = 95 ∧
    accessEstimate 331 300 0 0 2 = 190 ∧ accessEstimate 332 300 0 0 2 = 190 ∧ accessEstimate 0 655 0 0 8 = 376 ∧
    accessEstimate 0 655 67 23 2 = 407 := by decide

/-- R71: a read of head 11 from block 20 is in range with count 4 and out of it with 9 (and 5). -/
theorem test_range_end_of_cylinder :
    outOfRange .readBlocks ⟨0, 0, 639, 11, 20, 4, noFlags⟩ = false ∧
    outOfRange .readBlocks ⟨0, 0, 639, 11, 20, 9, noFlags⟩ = true ∧
    outOfRange .writeBlocks ⟨0, 0, 639, 11, 20, 5, noFlags⟩ = true := by decide

/-- R71: the other limits. -/
theorem test_range_limits : outOfRange .readBlocks ⟨0, 0, 0, 0, 0, 96, noFlags⟩ = false ∧
    outOfRange .readBlocks ⟨0, 0, 0, 0, 0, 97, noFlags⟩ = true ∧ outOfRange .readBlocks ⟨0, 0, 0, 0, 0, 0, noFlags⟩ = true ∧
    outOfRange .readBlocks ⟨0, 0, 640, 0, 0, 1, noFlags⟩ = true ∧ outOfRange .readBlocks ⟨0, 0, 0, 12, 0, 1, noFlags⟩ = true ∧
    outOfRange .readBlocks ⟨0, 0, 0, 0, 24, 1, noFlags⟩ = true ∧ outOfRange .readBlocks ⟨0, 0, 0, 11, 23, 1, noFlags⟩ = false ∧
    outOfRange .spareTrack ⟨0, 0, 639, 11, 31, 127, noFlags⟩ = false ∧
    outOfRange .spareTrack ⟨0, 0, 639, 12, 0, 1, noFlags⟩ = true := by decide

/-- 11.4: DATA-CHECK, LOST-BLOCK and ALTERNATE-USED after 9 blocks: 02, tag, kind and drive, 02, 00, 29, 09. -/
theorem test_record_bytes :
    recordBytes ⟨7, 3, .readBlocks, .check, [.dataCheck, .lostBlock, .alternateUsed], 9, 1, 2, 3⟩ =
      [0x02#8, 7#8, 0x13#8, 0x02#8, 0x00#8, 0x29#8, 9#8, 1#8, 2#8, 3#8] := by decide

/-- 11.5: a set of drives 1, 4 and 6 is sent as hex 52; NOTHING PENDING is the byte 04. -/
theorem test_attention_bytes :
    messageBytes (.attention #v[false, true, false, false, true, false, true, false]) = [0x03#8, 0x52#8] ∧
    messageBytes .nothingPending = [0x04#8] := by decide

/-- 11.6: drive 3 in SPARING, step S4 for 100/7, at cylinder 641, with 214/6 recommended. -/
theorem test_sense_bytes :
    senseBytes ⟨.sparing, .loaded, 1, 0, 179, none, 641, none, [2574], some (1207, .s4), none⟩ =
      [0x71#8, 1#8, 0#8, 179#8, 0#8, 0x02#8, 0x81#8, 0x12#8, 0#8, 0#8, 0#8, 0#8, 0#8, 0x0A#8, 0x0E#8, 0#8, 0#8, 0#8, 0#8,
        0#8, 0#8, 0x04#8, 0xB7#8, 4#8, 0#8, 0#8] := by decide

/-- 11.2: a WRITE BLOCKS message written out bit by bit: kind 2, tag 42, drive 5, cylinder 639 = 10 0111 1111, head 11,
block 23, count 96, HOLD-PATH and NO-RETRY. Its unassigned bits are set, and ignored. -/
theorem test_request_read : readRequest
    [0b00101111#8, 0b11101010#8, 0b10111110#8, 0b01111111#8, 0b11111011#8, 0b11110111#8, 0b11100000#8, 0b11001001#8] =
      some (.drive .writeBlocks ⟨42, 5, 639, 11, 23, 96, ⟨true, false, false, true, false, false⟩⟩) := by decide

/-- 11.2: the kind codes 8, 9, A, F and one the unit does not know. -/
theorem test_request_kinds :
    readRequest [0x80#8, 1#8, 0x60#8, 0#8, 0#8, 0#8, 0#8, 0#8] = some (.sense 1 3) ∧
    readRequest [0x90#8, 1#8, 0x60#8, 0#8, 0#8, 0#8, 0#8, 0#8] = some (.reserve 1 3) ∧
    readRequest [0xA0#8, 1#8, 0x60#8, 0#8, 0#8, 0#8, 0#8, 0#8] = some (.release 1 3) ∧
    readRequest [0xF0#8, 1#8, 0x60#8, 0#8, 0#8, 0#8, 0#8, 0#8] = some (.resetString 1) ∧
    readRequest [0xB0#8, 1#8, 0x60#8, 0#8, 0#8, 0#8, 0#8, 0#8] = some (.unknown 11 1) := by decide

/-! ## The statements' hypotheses are met

One theorem for each statement that has hypotheses, `witness_<statement>`, with boundary values where its clauses meet. -/

theorem awayFromPath (s : State) (d : DriveNo) (h : s.active = none) (w : s.work d = none) : AwayFromPath s d :=
  ⟨fun a ha => by simp [h] at ha, fun x hx => by simp [w] at hx⟩

def freeOn (s : State) (p : Port) : Bool :=
  decide ((s.port p).link = .idle ∧ (s.port p).waiting = none ∧ s.awaitsReset p = false ∧ (s.port p).reply = none)

theorem linkFree {s : State} {p : Port} (h : freeOn s p = true) : LinkFree s p := by
  unfold LinkFree; exact of_decide_eq_true h

theorem idleUnit_free : LinkFree idleUnit .A := linkFree (by decide)

theorem noWork_idleUnit : NoWork idleUnit 0 where
  orders := by decide
  queue := by decide
  work := by decide
  slot := by decide
  buffer := by decide
  waiting := by decide

/-- A reply that port A's link is still carrying. -/
def replyCarried : State := after (.reserveDrive .A 1 0 true) idleUnit

theorem witness_EmptyQueueEndsAnsweredExchanges :
    replyCarried.pending = [] ∧ (replyCarried.port .A).link = .exchange ∧ replyCarried.awaitsReset .A = false := by
  decide +kernel

/-- R98: the grant stands, and its Answer is not given, when port A is reset before it has been. -/
theorem test_reserve_kept_without_answer :
    (let t := after (.portReset .A) replyCarried
     (replyCarried.out, t.out, (t.port .A).reply, (t.drive 0).holder)) = ([], [], none, some .A) := by decide +kernel

/-- R64: the Answer that was carried goes out when the link has given it. -/
theorem test_reply_given_later :
    (match step replyCarried with | .next t => t.out | _ => []) = [.message .A (.answer 9 1 .granted)] := by
  decide +kernel

def aboutToRise : State := { State.reset with pending := [.readyRising 0] }

theorem aboutToRise_safe : Safe aboutToRise where
  media := by decide
  angle := by decide
  queue := by decide
  bypass := by decide
  orders := by decide
  ring := by decide
  awaits := fun p h => by cases p <;> exact absurd h (by decide)
  reply := fun p h => by cases p <;> exact absurd h (by decide)

theorem witness_EveryStepKeepsSafe : ∃ t, Safe aboutToRise ∧ step aboutToRise = .next t := ⟨_, aboutToRise_safe, rfl⟩

theorem witness_OnlyPowerOnResetChangesStraps :
    ∃ c s t, (∀ b, c ≠ Instr.powerOnReset b) ∧ exec c s = .next t :=
  ⟨.readyRising 0, State.reset, _, fun _ => by simp, rfl⟩

theorem witness_ReservationsOutlastEventsAndPortReset :
    ∃ t, isEventOrStep (.portReset .B) = true ∧
      exec (.portReset .B) (withDrive fun r => { r with holder := some .B }) = .next t := ⟨_, by decide, rfl⟩

theorem witness_AnglesMoveOnlyAtMarks :
    ∃ c s t, (∀ b, c ≠ Instr.powerOnReset b) ∧ (∀ x, c ≠ .sectorMark 0 x) ∧ (∀ x, c ≠ .indexMark 0 x) ∧
      exec c s = .next t :=
  ⟨.sectorMark 1 bare, State.reset, _, fun _ => by simp, fun _ => by simp, fun _ => by simp, rfl⟩

theorem witness_PowerOnResetEmptiesTheUnit : State.reset.active = none := by decide

/-- A string reset whose port has been reset refuses every kind (R82). -/
def resettingUnit : State := { idleUnit with stringReset := some ⟨none⟩ }

theorem witness_RefusalChangesNothing :
    resettingUnit.followUps = [] ∧ LinkFree resettingUnit .A ∧
    resettingUnit.refusal .A (.drive .readBlocks read4) = some .resetting ∧
    resettingUnit.refusal .A (.drive .writeBlocks read4) = some .resetting ∧
    resettingUnit.refusal .A (.drive .spareTrack read4) = some .resetting ∧
    resettingUnit.refusal .A (.sense 1 0) = some .resetting ∧
    resettingUnit.refusal .A (.reserve 1 0) = some .resetting ∧
    resettingUnit.refusal .A (.release 1 0) = some .resetting ∧
    resettingUnit.refusal .A (.resetString 1) = some .resetting ∧
    resettingUnit.refusal .A (.unknown 4 1) = some .resetting :=
  ⟨by decide, linkFree (by decide), by decide⟩

/-- R68's note: a request that would be refused both DUPLICATE-TAG and PORT-LIMIT is refused DUPLICATE-TAG. -/
theorem test_duplicate_before_limit :
    State.refusal (State.onPort { idleUnit with queue := [⟨.A, .readBlocks, read4, 0, .queued, none, none, none⟩] } .A fun u =>
      { u with outstanding := 12 }) .A (.drive .readBlocks read4) = some .duplicateTag ∧
    (idleUnit.onPort .A fun u => { u with outstanding := 12 }).refusal .A (.drive .readBlocks read4) = some .portLimit ∧
    (idleUnit.onPort .A fun u => { u with outstanding := 11 }).refusal .A (.drive .readBlocks read4) = none := by decide

theorem witness_UnknownKindAnsweredInvalid :
    idleUnit.followUps = [] ∧ LinkFree idleUnit .A ∧ idleUnit.stringReset = none :=
  ⟨by decide, idleUnit_free, by decide⟩

def seekingUnit : State := unitIn .seeking

/-- Beside a result of another port's SPARE TRACK and an order that has not started. -/
theorem witness_TransferRequestAccepted :
    seekingUnit.followUps = [] ∧ LinkFree seekingUnit .A ∧ NoImageOrder seekingUnit ∧
    (∀ m : DriveRequest, m = read4 ∨ m = { read4 with firstBlock := 23, count := 73 } →
      seekingUnit.refusal .A (.drive .readBlocks m) = none ∧ outOfRange .readBlocks m = false ∧
      (seekingUnit.drive m.drive).state ≠ .offline ∧ (seekingUnit.drive m.drive).state ≠ .faulted ∧
      (seekingUnit.drive m.drive).state ≠ .idle ∧
      ∀ t ∈ touchedTracks .readBlocks m, seekingUnit.trackHeld m.drive (trackNumber t) = false) ∧
    (∀ e ∈ seekingUnit.queue, e.port = .A → e.mark = none) ∧ (∀ x ∈ seekingUnit.results, x.ref.port ≠ .A) :=
  ⟨by decide, linkFree (by decide), (by unfold NoImageOrder; decide),
    (by rintro m (rfl | rfl) <;> decide), by decide, by decide⟩

theorem witness_MarkedRequestCompletesAtOnce :
    (let s := unitIn .sparing
     let m := { read4 with cyl := 640 }
     s.followUps = [] ∧ LinkFree s .A ∧ s.refusal .A (.drive .readBlocks m) = none ∧ NoImageOrder s ∧
      (∀ e ∈ s.queue, e.port = .A → e.request.drive ≠ m.drive) ∧ (s.drive m.drive).state ≠ .idle ∧
      (∀ x ∈ s.results, x.ref.port ≠ .A) ∧ outOfRange .readBlocks m = true) ∧
    ∀ state, state = .offline ∨ state = .faulted →
      let s := unitIn state
      s.followUps = [] ∧ LinkFree s .A ∧ s.refusal .A (.drive .readBlocks read4) = none ∧ NoImageOrder s ∧
      (∀ e ∈ s.queue, e.port = .A → e.request.drive ≠ read4.drive) ∧ (s.drive read4.drive).state ≠ .idle ∧
      (∀ x ∈ s.results, x.ref.port ≠ .A) ∧ outOfRange .readBlocks { read4 with cyl := 639 } = false ∧
      ((s.drive read4.drive).state = .offline ∨ (s.drive read4.drive).state = .faulted) :=
  ⟨⟨by decide, linkFree (by decide), by decide, (by unfold NoImageOrder; decide), by decide⟩, by
    rintro _ (rfl | rfl) <;>
      exact ⟨by decide, linkFree (by decide), by decide, (by unfold NoImageOrder; decide), by decide⟩⟩

/-- The arm stands at cylinder 100: the cylinder itself, and its neighbour. -/
theorem witness_RequestForIdleDriveDispatched :
    idleUnit.followUps = [] ∧ LinkFree idleUnit .A ∧
    ∀ m : DriveRequest, m = read4 ∨ m = { read4 with cyl := 101 } →
      idleUnit.queue = [] ∧ idleUnit.orders = [] ∧ idleUnit.results = [] ∧
      idleUnit.refusal .A (.drive .readBlocks m) = none ∧ outOfRange .readBlocks m = false ∧
      (idleUnit.drive m.drive).state = .idle ∧ (idleUnit.drive m.drive).dispatched = none ∧
      (idleUnit.drive m.drive).rotationKnown = true ∧ (idleUnit.map m.drive).table = [] ∧
      (m.cyl = (idleUnit.drive m.drive).cylinder ↔ m = read4) :=
  ⟨by decide, idleUnit_free, by rintro m (rfl | rfl) <;> decide⟩

theorem witness_SpareTrackPlacesRequestOrder :
    let o : Order := ⟨.mapWrite, 1, none, .notStarted, none, none, 0, false⟩
    let s : State := { seekingUnit with orders := List.replicate 7 o }
    s.followUps = [] ∧ LinkFree s .A ∧ NoImageOrder s ∧ s.refusal .A (.drive .spareTrack read4) = none ∧
    outOfRange .spareTrack read4 = false ∧
    (s.drive read4.drive).state ≠ .offline ∧ (s.drive read4.drive).state ≠ .faulted ∧
    (s.drive read4.drive).state ≠ .idle ∧
    (s.drive read4.drive).mapState ≠ .degraded ∧ trackNumber ⟨read4.cyl, read4.head⟩ ∉ (s.map read4.drive).unplaced ∧
    (∀ o ∈ s.orders, o.drive = read4.drive → o.track ≠ some (trackNumber ⟨read4.cyl, read4.head⟩)) ∧
    s.orders.length < 8 ∧ (∀ e ∈ s.queue, e.port = .A → e.mark = none) ∧ (∀ x ∈ s.results, x.ref.port ≠ .A) :=
  ⟨by decide, linkFree (by decide), (by unfold NoImageOrder; decide), by decide⟩

theorem witness_SenseDriveAnswersSnapshot :
    idleUnit.followUps = [] ∧ LinkFree idleUnit .A ∧ idleUnit.stringReset = none ∧ (idleUnit.drive 0).installed = true :=
  ⟨by decide, idleUnit_free, by decide⟩

/-- Unreserved, and reserved by the port itself, with an own entry in the queue. -/
theorem witness_ReserveDriveGranted : ∀ h : Option Port, h = none ∨ h = some .A →
    let s : State := { withDrive fun r => { ready r with holder := h } with
      queue := [⟨.A, .readBlocks, read4, 0, .queued, none, none, none⟩] }
    s.followUps = [] ∧ LinkFree s .A ∧ s.stringReset = none ∧ (s.drive 0).installed = true ∧
    ((s.drive 0).holder = none ∨ (s.drive 0).holder = some .A) ∧
    (∀ e ∈ s.queue, e.request.drive = 0 → e.port = .A ∨ e.mark ≠ none ∨ e.status = .dispatched) := by
  rintro _ (rfl | rfl) <;> exact ⟨by decide, linkFree (by decide), by decide⟩

/-- The withdrawn entry is QUEUED or HELD. -/
theorem witness_GrantWithdrawsOtherPorts : ∀ e : Entry,
    e = ⟨.B, .readBlocks, read4, 0, .queued, none, none, none⟩ ∨
    e = ⟨.C, .writeBlocks, read4, 8, .held, none, none, none⟩ →
    let s : State := { seekingUnit with queue := [e] }
    s.followUps = [] ∧ LinkFree s .A ∧ NoImageOrder s ∧ s.stringReset = none ∧ (s.drive 0).installed = true ∧
    (s.drive 0).holder = none ∧ (s.drive 0).state ≠ .idle ∧ s.queue = [e] ∧ s.results = [] ∧
    (∀ o ∈ s.orders, o.requester = none) ∧ e.port ≠ .A ∧ e.request.drive = 0 ∧ e.mark = none ∧
    e.kind ≠ .spareTrack ∧ e.status ≠ .dispatched := by
  rintro _ (rfl | rfl) <;>
    exact ⟨by decide, linkFree (by decide), (by unfold NoImageOrder; decide), by decide⟩

theorem witness_ReleaseDriveAnswered : ∀ h : Option Port, h = none ∨ h = some .B ∨ h = some .A →
    let s : State := withDrive fun r => { ready r with holder := h }
    s.followUps = [] ∧ LinkFree s .A ∧ s.stringReset = none ∧ (s.drive 0).installed = true ∧
    ((s.drive 0).holder ≠ some .A ∨ (s.drive 0).holder = some .A) := by
  rintro _ (rfl | rfl | rfl) <;> exact ⟨by decide, linkFree (by decide), by decide⟩

theorem witness_ResetStringBegins : ∀ state, state = .offline ∨ state = .faulted ∨ state = .idle ∨ state = .loadingMap →
    let s := unitIn state
    s.followUps = [] ∧ LinkFree s .A ∧ s.stringReset = none ∧ (s.port .A).maintenance = true ∧ s.active = none ∧
    s.slot 8 = none ∧ (∀ o ∈ s.orders, o.step ≠ .s1) ∧
    ∀ d, (s.drive d).state = .offline ∨ (s.drive d).state = .faulted ∨ (s.drive d).state = .idle ∨
      (s.drive d).state = .loadingMap := by
  rintro _ (rfl | rfl | rfl | rfl) <;> exact ⟨by decide, linkFree (by decide), by decide⟩

def aRecord : CompletionRecord := ⟨5, 0, .readBlocks, .normal, [], 4, 0, 0, 0⟩

/-- One record at the count that lowers Hold, an attention notice alone, nothing. -/
theorem witness_CollectReplies :
    (let s := idleUnit.onPort .A fun u => { u with status := [aRecord], outstanding := 7, holdLine := true }
     s.followUps = [] ∧ LinkFree s .A ∧ (s.port .A).status = aRecord :: []) ∧
    (let s := idleUnit.onPort .A fun u => { u with attention := u.attention.set 7 true }
     s.followUps = [] ∧ LinkFree s .A ∧ (s.port .A).status = [] ∧
      (s.port .A).attention ≠ Vector.replicate 8 false) ∧
    idleUnit.followUps = [] ∧ LinkFree idleUnit .A ∧ (idleUnit.port .A).status = [] ∧
      (idleUnit.port .A).attention = Vector.replicate 8 false :=
  ⟨⟨by decide, linkFree (by decide), by decide⟩, ⟨by decide, linkFree (by decide), by decide⟩, by decide,
    idleUnit_free, by decide⟩

/-- R75: the Collect that brings the count to 6 lowers Hold. -/
theorem test_hold_lowered_at_6 :
    (let s := idleUnit.onPort .A fun u => { u with status := [aRecord], outstanding := 7, holdLine := true }
     let u := (after (.collect .A false) s).port .A
     (u.outstanding, u.holdLine, u.statusPending)) = (6, false, false) := by decide +kernel

/-- R75: the acceptance that brings the count to 10 raises Hold. -/
theorem test_hold_raised_at_10 :
    (let s := seekingUnit.onPort .A fun u => { u with outstanding := 9 }
     let u := (after (.readBlocks .A read4 false) s).port .A
     (u.outstanding, u.holdLine)) = (10, true) := by decide +kernel

theorem witness_WaitingExchangeTaken : idleUnit.followUps = [] ∧ LinkFree idleUnit .A := ⟨by decide, idleUnit_free⟩

/-! ### Drive events -/

theorem witness_ReadyRisingBeginsMapLoad :
    (State.reset.followUps = [] ∧ (State.reset.drive 0).installed = true ∧ (State.reset.drive 0).state = .offline) ∧
    (idleUnit.followUps = [] ∧ (idleUnit.drive 0).state ≠ .offline) ∧
    (withDrive fun r => { r with installed := false }).followUps = [] ∧
    ((withDrive fun r => { r with installed := false }).drive 0).installed = false := by decide

theorem witness_ReadyFallingUnloadsDrive :
    (idleUnit.followUps = [] ∧ (idleUnit.drive 0).installed = true ∧ (idleUnit.drive 0).state ≠ .offline ∧
      NoWork idleUnit 0 ∧ AwayFromPath idleUnit 0 ∧ ∀ k, idleUnit.slot imageSlot = some k → k.drive ≠ 0) ∧
    State.reset.followUps = [] ∧ (State.reset.drive 0).state = .offline :=
  ⟨⟨by decide, by decide, by decide, noWork_idleUnit, awayFromPath _ _ (by decide) (by decide),
    fun k h => by simp [show idleUnit.slot imageSlot = none by decide] at h⟩, by decide⟩

/-- Port A's read of 100/2, dispatched to drive 0, with counts reached. -/
def entryA : Entry := ⟨.A, .readBlocks, read4, 0, .dispatched, none, some (driveSlot 0), none⟩

def packageA : Package :=
  { newPackage entryA (some ⟨100, 2⟩) false with nextBlock := 4, count := 3, transferred := 1, retries := 2, revsLost := 1 }

/-- Drive 0 at work on port A's read. -/
def working (f : DriveRecord → DriveRecord) : State :=
  State.setSlot { withDrive fun r => f { ready r with dispatched := some entryA.ref } with queue := [entryA] } (driveSlot 0)
    (some packageA)

theorem witness_ReadyFallingEndsDispatchedRequest : ∀ state, state = .seeking ∨ state = .orienting →
    let s := working fun r => { r with state := state }
    s.followUps = [] ∧ s.stringReset = none ∧ s.active = none ∧ (s.drive 0).installed = true ∧
    ((s.drive 0).state = .seeking ∨ (s.drive 0).state = .orienting) ∧ (s.drive 0).orphaned = false ∧
    s.work 0 = none ∧ s.orders = [] ∧ s.results = [] ∧ s.queue = [entryA] ∧ s.slot (driveSlot 0) = some packageA ∧
    s.slot imageSlot = none ∧ packageA.request = entryA.ref ∧ packageA.drive = 0 := by
  rintro _ (rfl | rfl) <;> decide

/-- Port A's read, on its way to cylinder 100. -/
def seekTo (count : Nat) : State :=
  working fun r => { r with state := .seeking, target := some 100, timer := .ms120, recalCount := count }

/-- The window of block 4, lead 2, is sector 14: at angle 14 it opens at once, at 13 and 15 not. -/
theorem witness_PositionedArmsWindow : ∀ angle, angle = 13 ∨ angle = 14 ∨ angle = 15 →
    let s := (seekTo 0).onDrive 0 fun r => { r with angle := angle }
    s.followUps = [] ∧ (s.drive 0).state = .seeking ∧ (s.drive 0).timer = .ms120 ∧ (s.drive 0).target = some 100 ∧
    (s.drive 0).orphaned = false ∧ (s.drive 0).boundaryMissed = false ∧ s.slot (driveSlot 0) = some packageA ∧
    ((s.drive 0).angle = (4 * packageA.nextBlock + 96 - 2) % 96 ↔ angle = 14) := by
  rintro _ (rfl | rfl | rfl) <;> decide

theorem witness_FirstPositioningFailureRecalibrates :
    (seekTo 0).followUps = [] ∧ AwayFromPath (seekTo 0) 0 ∧ ((seekTo 0).drive 0).state = .seeking ∧
    ((seekTo 0).drive 0).timer = .ms120 ∧ ((seekTo 0).drive 0).recalCount = 0 ∧ ((seekTo 0).drive 0).target ≠ some 101 :=
  ⟨by decide, awayFromPath _ _ (by decide) (by decide), by decide⟩

theorem witness_SecondPositioningFailureFaults :
    (seekTo 1).followUps = [] ∧ (seekTo 1).stringReset = none ∧ (seekTo 1).active = none ∧
    ((seekTo 1).drive 0).state = .seeking ∧ ((seekTo 1).drive 0).timer = .ms120 ∧
    ((seekTo 1).drive 0).recalCount = 1 ∧ ((seekTo 1).drive 0).orphaned = false ∧ (seekTo 1).work 0 = none ∧
    (seekTo 1).orders = [] ∧ (seekTo 1).results = [] ∧ (seekTo 1).queue = [entryA] ∧
    (seekTo 1).slot (driveSlot 0) = some packageA ∧ (seekTo 1).slot imageSlot = none ∧
    packageA.request = entryA.ref ∧ packageA.drive = 0 ∧ packageA.physical = some ⟨100, 2⟩ ∧
    packageA.conditions = [] := by decide

/-- Drive 0 recalibrating: with port A's read, and without work. -/
def recalUnit : State := working fun r => { r with state := .recalibrating, target := some 0, timer := .ms500, recalCount := 1 }

def recalIdle : State := withDrive fun r => { ready r with state := .recalibrating, target := some 0, timer := .ms500 }

theorem witness_RecalibrationEnds :
    (recalUnit.followUps = [] ∧ (recalUnit.drive 0).state = .recalibrating ∧ (recalUnit.drive 0).timer = .ms500 ∧
      recalUnit.slot (driveSlot 0) = some packageA ∧ packageA.physical = some ⟨100, 2⟩ ∧
      (recalUnit.drive 0).orphaned = false ∧ (recalUnit.drive 0).boundaryMissed = false) ∧
    recalIdle.followUps = [] ∧ (recalIdle.drive 0).state = .recalibrating ∧ (recalIdle.drive 0).timer = .ms500 ∧
      NoWork recalIdle 0 ∧ AwayFromPath recalIdle 0 :=
  ⟨by decide, by decide, by decide, by decide,
    ⟨by decide, by decide, by decide, by decide, by decide, by decide⟩, awayFromPath _ _ (by decide) (by decide)⟩

theorem witness_PositionFaultAtRest : ∀ state, state = .idle ∨ state = .offline ∨ state = .faulted →
    (unitIn state).followUps = [] ∧ AwayFromPath (unitIn state) 0 ∧ ((unitIn state).drive 0).state = state := by
  rintro _ (rfl | rfl | rfl) <;> exact ⟨by decide, awayFromPath _ _ (by decide) (by decide), by decide⟩

/-! ### The connected context -/

/-- A connected context at drive 0, at block 3 of 100/2. -/
def activeOf (conn : Connected) (leaving : Option Leaving) : Active where
  conn := conn
  drive := 0
  diskLogical := ⟨100, 2⟩
  diskPhysical := some ⟨100, 2⟩
  diskThroughAlt := false
  diskBlock := 3
  diskLeft := 4
  grantPeriod := false
  phase := .ready
  blockMarks := some 2
  fieldFailed := false
  rewrite := none
  retryDue := false
  leaving := leaving
  abandoned := false

def entryW : Entry := { entryA with kind := .writeBlocks }

def packageW : Package := newPackage entryW (some ⟨100, 2⟩) false

/-- Port A's write, connected, with so many consecutive pacing losses. -/
def writeConnected (leaving : Option Leaving) (pacing : Nat) : State :=
  let s := withDrive fun r => { ready r with state := .connected, dispatched := some entryW.ref }
  State.onPort { s with
    queue := [entryW]
    active := some (activeOf (.host packageW (driveSlot 0)) leaving)
    dataPath := { s.dataPath with disk := .active, pacing := pacing } } .A fun u => { u with link := .data }

/-- Between blocks of a visit not yet begun, inside a block of a visit, and after a failed identity check. -/
theorem witness_WriteFaultEndsHostWrite :
    (idleUnit.followUps = [] ∧ AwayFromPath idleUnit 0) ∧
    ∀ visit marks failed, (visit = none ∧ marks = none ∧ failed = false) ∨
      (visit = some ⟨100, 2⟩ ∧ marks = some 2 ∧ (failed = false ∨ failed = true)) →
    let p := { packageW with visitTrack := visit }
    let a := { activeOf (.host p (driveSlot 0)) none with blockMarks := marks, fieldFailed := failed }
    let s := { writeConnected none 15 with active := some a }
    s.followUps = [] ∧ s.active = some a ∧ a.drive = 0 ∧ a.conn = .host p (driveSlot 0) ∧ a.leaving = none ∧
    a.abandoned = false ∧ p.drive = 0 ∧ p.kind = .writeBlocks ∧ p.verify = false ∧ p.conditions = [] ∧
    s.dataPath.pacing < 16 ∧ (s.drive 0).rotationKnown = true ∧ s.stringReset = none ∧ s.work 0 = none ∧
    s.queue = [entryW] ∧ entryW.ref = p.request ∧ s.orders = [] ∧ s.results = [] ∧ s.slot imageSlot = none ∧
    (s.port entryW.port).link = .data ∧ s.history = [] ∧ s.owner 0 ⟨100, 2⟩ = some 1202 :=
  ⟨⟨by decide, awayFromPath _ _ (by decide) (by decide)⟩, by
    rintro _ _ _ (⟨rfl, rfl, rfl⟩ | ⟨rfl, rfl, (rfl | rfl)⟩) <;> decide +kernel⟩

/-- A work context of drive 0. -/
def workOf (kind : WorkKind) (track : Track) (result : Option WorkResult) : Work :=
  ⟨kind, track, 3, 1, 0, none, none, result⟩

/-- Drive 0 in SPARING, with a work context that is connected or at rest. -/
def sparingWith (kind : WorkKind) (track : Track) (result : Option WorkResult) (connected : Bool) : State :=
  let s := unitIn .sparing
  { s with
    works := s.works.set 0 (some (workOf kind track result))
    active := if connected then
      some { activeOf (.work (workOf kind track result)) none with diskPhysical := some track } else none }

theorem witness_WriteFaultFailsRecordingWork : ∀ kind, kind = .mapWrite ∨ kind = .sparingWrite ∨ kind = .sparingMark →
    let s := sparingWith kind ⟨641, 2⟩ none true
    let w := workOf kind ⟨641, 2⟩ none
    let a := { activeOf (.work w) none with diskPhysical := some ⟨641, 2⟩ }
    s.followUps = [] ∧ s.active = some a ∧ a.drive = 0 ∧ a.conn = .work w ∧ a.leaving = none ∧ s.dataPath.pacing < 16 ∧
    s.work 0 = some w ∧ w.result = none ∧ w.kind = kind := by
  rintro _ (rfl | rfl | rfl) <;> decide

/-! ### Marks and windows -/

/-- The angle before the last sector, and the last. -/
theorem witness_MarksSetAngle : ∀ angle, angle = 94 ∨ angle = 95 →
    let s := idleUnit.onDrive 0 fun r => { r with angle := angle }
    s.followUps = [] ∧ AwayFromPath s 0 ∧ (s.drive 0).installed = true ∧ (s.window 0).state = .disarmed ∧
    s.arbiter.freeAt ≠ some 0 ∧ (s.drive 0).deferred = false := by
  rintro _ (rfl | rfl) <;> exact ⟨by decide, awayFromPath _ _ (by decide) (by decide), by decide⟩

theorem witness_MarksSetAngle_absent :
    (withDrive fun r => { r with installed := false }).followUps = [] ∧
    ((withDrive fun r => { r with installed := false }).drive 0).installed = false := by decide

/-- R1: from 95 the angle goes to 0. -/
theorem test_angle_wraps :
    ((after (.sectorMark 0 bare) (idleUnit.onDrive 0 fun r => { r with angle := 95 })).drive 0).angle = 0 := by decide +kernel

/-- Port A's read on a drive that is ORIENTING, its window armed for block 4 at sector 14. -/
def orienting (state : ArmingState) (angle : Nat) : State :=
  let s := working fun r => { r with state := .orienting, angle := angle }
  { s with windows := s.windows.set 0 ⟨state, 4, 14, false⟩ }

theorem witness_WindowOpensAndExpires : ∀ state angle,
    (state = .waiting ∧ (angle = 12 ∨ angle = 13)) ∨ (state = .pending ∧ angle = 14) →
    let s := orienting state angle
    s.followUps = [] ∧ AwayFromPath s 0 ∧ (s.drive 0).installed = true ∧ s.arbiter.freeAt ≠ some 0 ∧
    (s.window 0).hold = false ∧ (s.window 0).state = state ∧ (s.drive 0).rotationKnown = true ∧ s.work 0 = none ∧
    s.slot (driveSlot 0) = some packageA ∧
    (((s.drive 0).angle + 1) % 96 = (s.window 0).sector ↔ angle = 13) := by
  rintro state angle (⟨rfl, (rfl | rfl)⟩ | ⟨rfl, rfl⟩) <;>
    exact ⟨by decide, awayFromPath _ _ (by decide) (by decide), by decide⟩

/-- A state whose drive-0 requester is pending, the path free. -/
def pendingOn0 (s : State) : State :=
  { s with arbiter := { s.arbiter with pendingSet := s.arbiter.pendingSet.set 0 true } }

theorem witness_GrantFollowsRotation : State.nextGrant (pendingOn0 (orienting .pending 14)) = some (driveSlot 0) ∧
    State.pathFree (pendingOn0 (orienting .pending 14)) = true := by decide

theorem witness_GrantConnectsContext :
    (let s := pendingOn0 (orienting .pending 14)
     s.followUps = [] ∧ s.nextGrant = some (driveSlot 0) ∧ s.work 0 = none ∧ s.slot (driveSlot 0) = some packageA ∧
      packageA.drive = 0) ∧
    let s := pendingOn0 (sparingWith .sparingRead ⟨100, 2⟩ none false)
    s.followUps = [] ∧ s.nextGrant = some (driveSlot 0) ∧ s.work 0 = some (workOf .sparingRead ⟨100, 2⟩ none) := by decide

/-- Port A's read of one track, connected. -/
def packageR : Package := { packageA with visitTrack := some ⟨100, 2⟩ }

def readConnected (a : Active) (path : DataPath) (angle : Nat) : State :=
  let s := working fun r => { r with state := .connected, angle := angle }
  { s with active := some a, dataPath := path }

/-- An image service read of 100/7, granted, its drive in step S4 and not connected. -/
def imageGranted : State :=
  let p : Package := { packageA with physical := none, verify := false, logical := ⟨100, 7⟩, visitTrack := none }
  { sparingWith .sparingWrite ⟨641, 2⟩ none false with
    active := some { activeOf (.host p imageSlot) none with
      phase := .granted, grantPeriod := true, blockMarks := none, diskPhysical := none }
    dataPath := { DataPath.empty with sinceFinish := 95 } }

theorem witness_ExchangeInSelectsHeadAndOffset_image : ∃ a p, imageGranted.active = some a ∧ a.drive = 0 ∧
    a.conn = .host p imageSlot ∧ a.phase = .granted ∧ a.leaving = none ∧ a.diskPhysical = none ∧ p.heldStep = none ∧
    imageGranted.followUps = [] ∧ imageGranted.dataPath.pacing < 16 ∧ imageGranted.dataPath.sinceFinish < 96 ∧
    (∀ w, imageGranted.work 0 = some w → w.result = none) ∧ (imageGranted.drive 0).installed = true ∧
    (imageGranted.drive 0).state ≠ .offline ∧ (imageGranted.drive 0).state ≠ .faulted ∧
    (imageGranted.window 0).state = .disarmed ∧ imageGranted.arbiter.freeAt ≠ some 0 :=
  ⟨_, _, rfl, rfl, rfl, by decide⟩

/-- R103: the exchange-in of image service issues OFFSET NONE; at a FAULTED drive R4 lets it issue nothing. -/
theorem test_image_exchange_in :
    (after (.sectorMark 0 bare) imageGranted).out = [.bus 0 (.offset .none)] ∧
    (after (.sectorMark 0 bare) (imageGranted.onDrive 0 fun r => { r with state := .faulted })).out = [] := by
  decide +kernel

/-- An exchange-in at steps 0, 4 and 7. -/
theorem witness_ExchangeInSelectsHeadAndOffset : ∀ step, step = 0 ∨ step = 4 ∨ step = 7 →
    let a := { activeOf (.host packageR (driveSlot 0)) none with phase := .granted, grantPeriod := true, blockMarks := none }
    let s := readConnected a { DataPath.empty with disk := .active, step := step } 14
    s.followUps = [] ∧ s.active = some a ∧ a.drive = 0 ∧ a.conn = .host packageR (driveSlot 0) ∧ a.phase = .granted ∧
    a.leaving = none ∧ a.diskPhysical = some ⟨100, 2⟩ ∧ packageR.heldStep = none ∧ s.dataPath.pacing < 16 ∧
    s.work 0 = none ∧ (s.drive 0).installed = true ∧ (s.window 0).state = .disarmed ∧ s.arbiter.freeAt ≠ some 0 := by
  rintro _ (rfl | rfl | rfl) <;> decide

/-! ### The data path -/

/-- A slot that the port carries, and one that waits for it. -/
def drainingSlot (i : Nat) (fill : FillState) : RingSlot :=
  ⟨entryA.ref, i, ⟨100, 2⟩, i, fill, .good, some (.bytes 0#4096)⟩

/-- The port has nothing to carry and the ring is empty; or it carries the first of 23 blocks. -/
theorem witness_ReadBlockTakesRingSlot : ∀ port ring,
    (port = .idle ∧ ring = []) ∨
      (port = .carrying ∧ ring = drainingSlot 0 .draining :: (List.range 22).map fun i => drainingSlot i .full) →
    let a := { activeOf (.host packageR (driveSlot 0)) none with blockMarks := none }
    let s := readConnected a { DataPath.empty with disk := .active, port := port, ring := ring } 11
    s.followUps = [] ∧ s.active = some a ∧ a.drive = 0 ∧ a.conn = .host packageR (driveSlot 0) ∧ a.phase = .ready ∧
    a.leaving = none ∧ a.abandoned = false ∧ a.blockMarks = none ∧ a.retryDue = false ∧ 0 < a.diskLeft ∧
    a.diskPhysical = some ⟨100, 2⟩ ∧ a.diskThroughAlt = false ∧ packageR.kind = .readBlocks ∧
    packageR.verify = false ∧ packageR.visitTrack = some ⟨100, 2⟩ ∧ s.dataPath.pacing < 16 ∧
    s.dataPath.disk = .active ∧ s.dataPath.ring.length < 24 ∧ (s.dataPath.port = .idle → s.dataPath.ring = []) ∧
    s.dataPath.portMarks + 1 < blockTime (s.port packageR.request.port).linkClass ∧ s.work 0 = none ∧
    (s.drive 0).installed = true ∧ (s.drive 0).rotationKnown = true ∧
    ((s.drive 0).angle + 1) % 96 = 4 * a.diskBlock ∧ (s.window 0).state = .disarmed ∧ s.arbiter.freeAt ≠ some 0 ∧
    bare.field = none ∧
    (s.recorded 0 ⟨100, 2⟩ a.diskBlock).field = ⟨⟨100, 2, a.diskBlock, .normal, none, false⟩, .generated⟩ := by
  rintro _ _ (⟨rfl, rfl⟩ | ⟨rfl, rfl⟩) <;> decide +kernel

def fillingSlot : RingSlot := ⟨entryA.ref, 3, ⟨100, 2⟩, 3, .filling, .good, none⟩

/-- The block, and the last block of a track. -/
theorem witness_ReadBlockEndsGood : ∀ block, block = 3 ∨ block = 23 →
    let a := { activeOf (.host packageR (driveSlot 0)) none with blockMarks := some 3, diskLeft := 1, diskBlock := block }
    let s := readConnected a { DataPath.empty with disk := .active, ring := [fillingSlot] } 15
    s.followUps = [] ∧ s.active = some a ∧ a.drive = 0 ∧ a.conn = .host packageR (driveSlot 0) ∧ a.phase = .ready ∧
    a.leaving = none ∧ a.abandoned = false ∧ a.blockMarks = some 3 ∧ a.fieldFailed = false ∧ a.diskLeft = 1 ∧
    a.diskPhysical = some ⟨100, 2⟩ ∧ packageR.kind = .readBlocks ∧ packageR.verify = false ∧
    packageR.visitTrack = some ⟨100, 2⟩ ∧ packageR.visitResult = none ∧ packageR.heldStep = none ∧
    s.dataPath.pacing < 16 ∧ s.dataPath.port = .idle ∧ s.dataPath.step = 0 ∧ s.dataPath.ring = [fillingSlot] ∧
    fillingSlot.fill = .filling ∧ s.work 0 = none ∧ (s.drive 0).installed = true ∧ (s.drive 0).offset = .none ∧
    (s.window 0).state = .disarmed ∧ s.arbiter.freeAt ≠ some 0 ∧ bare.data = none ∧
    (s.recorded 0 ⟨100, 2⟩ a.diskBlock).data = ⟨.bytes 0#4096, .generated⟩ := by
  rintro _ (rfl | rfl) <;> decide +kernel

/-- A write after a pacing loss or a retry wait; a write relocated to an alternate at cylinder 641; a read carried to its
end after a pacing loss: each with its link in DATA, and with the data connection ended already. -/
theorem witness_ExchangeOutRearmsWrite :
    (idleUnit.followUps = [] ∧ idleUnit.active = none) ∧
    ∀ (p : Package) (l : Leaving) (track : Track) (link : LinkState), (link = .data ∨ link = .idle) →
      (p = packageW ∧ (l = .pacingLoss ∨ l = .retryWait) ∧ track = ⟨100, 2⟩) ∨
      (p = packageW ∧ l = .relocation ∧ track = ⟨641, 2⟩) ∨ (p = packageA ∧ l = .pacingLoss ∧ track = ⟨100, 2⟩) →
    let a := { activeOf (.host p (driveSlot 0)) (some l) with diskPhysical := some track, diskLeft := p.count }
    let s := (writeConnected none 15).onPort .A fun u => { u with link := link }
    let s := { s with active := some a }
    s.followUps = [] ∧ s.active = some a ∧ a.drive = 0 ∧ a.conn = .host p (driveSlot 0) ∧ a.leaving = some l ∧
    a.abandoned = false ∧ s.dataPath.ring = [] ∧ s.dataPath.port = .idle ∧ a.diskLeft = p.count ∧
    s.dataPath.pacing < 16 ∧ (s.drive 0).boundaryMissed = false ∧
    (l = .relocation → track.cyl ≠ (s.drive 0).cylinder) :=
  ⟨by decide, by
    rintro _ _ _ _ (rfl | rfl) (⟨rfl, (rfl | rfl), rfl⟩ | ⟨rfl, rfl, rfl⟩ | ⟨rfl, rfl, rfl⟩) <;> decide⟩

/-- The fifteenth consecutive loss, and the sixteenth. -/
theorem witness_LinkTimeoutCompletesRequest :
    ((writeConnected none 15).followUps = [] ∧ (writeConnected none 15).dataPath.pacing < 16) ∧
    let s := writeConnected (some .pacingLoss) 16
    let a := activeOf (.host packageW (driveSlot 0)) (some .pacingLoss)
    s.followUps = [] ∧ s.active = some a ∧ a.drive = 0 ∧ a.conn = .host packageW (driveSlot 0) ∧ a.abandoned = false ∧
    packageW.drive = 0 ∧ packageW.kind = .writeBlocks ∧ packageW.conditions = [] ∧ packageW.visitTrack = none ∧
    16 ≤ s.dataPath.pacing ∧ (s.drive 0).rotationKnown = true ∧ s.stringReset = none ∧ s.queue = [entryW] ∧
    entryW.ref = packageW.request ∧ s.orders = [] ∧ s.results = [] ∧ s.slot imageSlot = none ∧
    (s.port entryW.port).link = .data := by decide

/-- 95 marks without a finished block, and 96. -/
theorem witness_ImageServiceStallCountsLoss : ∀ n, n = 95 ∨ n = 96 →
    let a := activeOf (.host packageA imageSlot) none
    let s : State := { idleUnit with
      active := some { activeOf (.host packageA imageSlot) none with drive := 0 }
      dataPath := { DataPath.empty with sinceFinish := n } }
    s.followUps = [] ∧ s.active = some a ∧ a.conn = .host packageA imageSlot ∧
    (s.dataPath.sinceFinish < 96 ↔ n = 95) := by
  rintro _ (rfl | rfl) <;> decide

/-! ### Map operations -/

theorem witness_MapBufferTakenByLoad :
    (let s : State := { unitIn .loadingMap with mapBuffer := ⟨some ⟨1, true⟩, [⟨0, true⟩], []⟩ }
     s.followUps = [] ∧ s.mapBuffer.owner ≠ none) ∧
    ∀ angle, angle = 93 ∨ angle = 94 →
      let s : State := { withDrive fun r => { ready r with state := .loadingMap, cylinder := 655, angle := angle } with
        mapBuffer := ⟨none, [⟨0, true⟩, ⟨1, true⟩], []⟩ }
      s.followUps = [] ∧ s.mapBuffer.owner = none ∧ s.mapBuffer.waiting = ⟨0, true⟩ :: [⟨1, true⟩] ∧
      (⟨0, true⟩ : MapOp) ∉ [(⟨1, true⟩ : MapOp)] ∧ (s.drive 0).unanswered = .stopped :=
  ⟨by decide, by rintro _ (rfl | rfl) <;> decide⟩

/-- A record of one committed entry and one retired index, and one that names an index twice. -/
def goodRecord : MapRecord := ⟨1, [⟨1207, 14, .committed, none⟩], [3], true⟩

def badRecord : MapRecord := { goodRecord with retired := [14] }

theorem witness_MapLoadEnds : ∀ m : MapRecord, m = goodRecord ∨ m = badRecord →
    let s : State := { sparingWith .mapLoad ⟨655, 0⟩ (some .done) false with
      mapBuffer := ⟨some ⟨0, true⟩, [], [.mapPart m 0, .mapPart m 1, .mapPart m 2, .mapPart m 3]⟩ }
    let s := s.onDrive 0 fun r => { r with state := .loadingMap }
    s.followUps = [] ∧ s.stringReset = none ∧ s.work 0 = some (workOf .mapLoad ⟨655, 0⟩ (some .done)) ∧
    (workOf .mapLoad ⟨655, 0⟩ (some .done)).kind = .mapLoad ∧ s.mapBuffer.owner = some ⟨0, true⟩ ∧
    (∀ o ∈ s.mapBuffer.waiting, o.drive ≠ 0) ∧
    s.mapBuffer.blocks = [.mapPart m 0, .mapPart m 1, .mapPart m 2, .mapPart m 3] ∧ s.queue = [] ∧ s.orders = [] ∧
    s.awaiting = [] ∧ s.results = [] ∧ (s.drive 0).state = .loadingMap ∧ (s.drive 0).rotationKnown = true ∧
    (∀ e ∈ m.entries, e.state = .committed) ∧ (recordValid m = true ↔ m = goodRecord) := by
  rintro _ (rfl | rfl) <;> decide

/-- A SPARE order for 100/7 with alternate 14, in a step. -/
def spareOrder (step : OrderStep) : Order := ⟨.spare 1207 .history, 0, none, step, some 14, some 2, 0, true⟩

/-- Drive 0 in SPARING with that order, its work ended. -/
def ended (kind : WorkKind) (result : WorkResult) (step : OrderStep) : State :=
  let s := sparingWith kind ⟨100, 7⟩ (some result) false
  { s with
    orders := [spareOrder step]
    maps := s.maps.set 0 { s.map 0 with table := [⟨1207, 14, .copying, some 2⟩] } }

def mapOrder : Order := ⟨.mapWrite, 0, none, .running, none, none, 0, false⟩

/-- The states that the clauses of `MapWriteOrderEnds` share. -/
def mapWriteEnded (kind : WorkKind) (result : WorkResult) (o : Order) : State :=
  { sparingWith kind ⟨655, 0⟩ (some result) false with mapBuffer := ⟨some ⟨0, false⟩, [], []⟩, orders := [o] }

/-- A MAP-WRITE order, and a SPARE order in S2, the first time and again, and in S6. -/
theorem witness_MapWriteOrderEnds : ∀ kind result o,
    (o = mapOrder ∧ ((kind = .mapWrite ∧ result = .failed) ∨ (kind = .mapReadBack ∧ result = .done))) ∨
    (kind = .mapReadBack ∧ result = .done ∧
      (o = spareOrder .s2 ∨ o = { spareOrder .s2 with retryCount := 1 } ∨ o = spareOrder .s6)) →
    let s := mapWriteEnded kind result o
    let w := workOf kind ⟨655, 0⟩ (some result)
    s.followUps = [] ∧ s.stringReset = none ∧ s.work 0 = some w ∧ (w.kind = .mapWrite ∨ w.kind = .mapReadBack) ∧
    w.result = some result ∧ s.mapBuffer.owner = some ⟨0, false⟩ ∧ (∀ o ∈ s.mapBuffer.waiting, o.drive ≠ 0) ∧
    s.orders = [o] ∧ o.drive = 0 ∧ o.requester = none ∧ s.awaiting = [] ∧ s.queue = [] ∧
    (∀ k, (s.map k).unplaced = [] ∧ (s.map k).writeOwed = false) ∧
    (∀ e ∈ (s.map 0).table, e.state = .committed) ∧ (s.drive 0).state = .sparing ∧
    (s.drive 0).rotationKnown = true ∧ s.slot imageSlot = none ∧ s.history = [] ∧
    (o ≠ mapOrder → o.kind = .spare 1207 .history ∧ o.newAlt = some 14) := by
  rintro _ _ _ (⟨rfl, (⟨rfl, rfl⟩ | ⟨rfl, rfl⟩)⟩ | ⟨rfl, rfl, (rfl | rfl | rfl)⟩) <;> decide +kernel

/-! ### Sparing -/

/-- A visit to 100/7 that stayed CLEAN, and one that was RETRIED: each with a track that has an owner or none. -/
theorem witness_SparingReadEndEntersS4 : ∀ (r : VisitResult) (v : Track),
    (r = .clean ∨ r = .retried) ∧ (v = ⟨100, 7⟩ ∨ v = ⟨641, 3⟩) →
    let w := { workOf .sparingRead v (some .done) with visitTrack := some v, visitResult := some r }
    let s := { ended .sparingRead .done .s3 with works := State.reset.works.set 0 (some w) }
    s.followUps = [] ∧ s.work 0 = some w ∧ w.kind = .sparingRead ∧ w.result = some .done ∧
    w.visitTrack = some v ∧ w.visitResult = some r ∧ s.history = [] ∧
    s.orders = [spareOrder .s3] ∧ (spareOrder .s3).drive = 0 ∧ (spareOrder .s3).kind = .spare 1207 .history ∧
    (spareOrder .s3).step = .s3 ∧ (spareOrder .s3).newAlt = some 14 ∧ s.queue = [] ∧
    (s.owner 0 v = none ↔ v = ⟨641, 3⟩) := by
  rintro _ _ ⟨(rfl | rfl), (rfl | rfl)⟩ <;> decide +kernel

/-- The verified alternate; and a failed one, whose place index 0 takes. -/
theorem witness_SparingVerifyEndEntersS5OrReturnsToS2 :
    (let s := (ended .sparingVerify .done .s4).onDrive 0 fun r => { r with cylinder := 641 }
     let w := workOf .sparingVerify ⟨100, 7⟩ (some .done)
     s.followUps = [] ∧ s.work 0 = some w ∧ (w.kind = .sparingWrite ∨ w.kind = .sparingVerify) ∧
      w.result = some .done ∧ s.orders = [spareOrder .s4] ∧ (spareOrder .s4).drive = 0 ∧
      (spareOrder .s4).kind = .spare 1207 .history ∧ (spareOrder .s4).step = .s4 ∧
      (spareOrder .s4).newAlt = some 14 ∧ (s.drive 0).cylinder ≠ 1207 / 12) ∧
    let s := ended .sparingWrite .failed .s4
    let w := workOf .sparingWrite ⟨100, 7⟩ (some .failed)
    s.followUps = [] ∧ s.work 0 = some w ∧ w.result = some .failed ∧ s.orders = [spareOrder .s4] ∧
      (s.drive 0).cylinder ≠ 655 ∧ 14 ∉ (s.map 0).retired ∧ (s.map 0).isFree 0 = true ∧
      ∀ a, a < 0 → a = 14 ∨ (s.map 0).isFree a = false := by
  decide

theorem witness_SparingMarkEndCommits : ∀ result, result = .done ∨ result = .failed →
    let s := ended .sparingMark result .s5
    let w := workOf .sparingMark ⟨100, 7⟩ (some result)
    s.followUps = [] ∧ s.work 0 = some w ∧ w.kind = .sparingMark ∧ w.result = some result ∧
    w.track = ⟨1207 / 12, 1207 % 12⟩ ∧ s.orders = [spareOrder .s5] ∧ (spareOrder .s5).drive = 0 ∧
    (spareOrder .s5).kind = .spare 1207 .history ∧ (spareOrder .s5).step = .s5 ∧ (spareOrder .s5).newAlt = some 14 ∧
    (spareOrder .s5).oldAlt = some 2 ∧ 2 ∉ (s.map 0).retired ∧ (s.drive 0).cylinder ≠ 655 := by
  rintro _ (rfl | rfl) <;> decide

/-! ### String reset and the rest -/

theorem witness_StringResetCompletes : ∀ state, state = .offline ∨ state = .faulted ∨ state = .idle →
    let s : State := { unitIn state with stringReset := some ⟨some (.A, 9)⟩ }
    s.followUps = [] ∧ s.stringReset = some ⟨some (.A, 9)⟩ ∧ s.active = none ∧ s.orders = [] ∧
    s.image.owner ≠ .imageService ∧
    ∀ d, (s.drive d).state = .offline ∨ (s.drive d).state = .faulted ∨
      ((s.drive d).state = .idle ∧ (s.drive d).rotationKnown = true) := by
  rintro _ (rfl | rfl | rfl) <;> decide

/-- A block of drive 0 that is three marks old. -/
def fourthMark (conn : Connected) (track : Track) : Active :=
  { activeOf conn none with diskPhysical := some track, blockMarks := some 3 }

/-- A block of a host write, its field as it stands or recorded anew; a block of a map write, of S4 and of S5. -/
theorem witness_MediaReadAfterWrite :
    mediaCanonical [] = true ∧
    (∀ rewrite, rewrite = none ∨ rewrite = some ⟨100, 2, 3, .normal, none, false⟩ →
      let a := { fourthMark (.host packageW (driveSlot 0)) ⟨100, 2⟩ with rewrite := rewrite }
      let s := writeConnected none 15
      let s := { s with
        active := some a
        dataPath := { s.dataPath with ring := drainingSlot 0 .draining :: (List.range 23).map fun i => drainingSlot i .full } }
      s.followUps = [] ∧ mediaCanonical s.media = true ∧ s.active = some a ∧ a.drive = 0 ∧ a.phase = .ready ∧
      a.leaving = none ∧ a.abandoned = false ∧ a.blockMarks = some 3 ∧ a.fieldFailed = false ∧ s.dataPath.pacing < 16 ∧
      (s.drive 0).installed = true ∧ a.conn = .host packageW (driveSlot 0) ∧ packageW.kind = .writeBlocks ∧
      packageW.verify = false ∧ a.diskPhysical = some ⟨100, 2⟩ ∧ s.work 0 = none ∧
      s.dataPath.ring.head? = some (drainingSlot 0 .draining) ∧
      (drainingSlot 0 .draining).content = some (.bytes 0#4096)) ∧
    ∀ kind step, (kind = .mapWrite ∧ step = .s2) ∨ (kind = .sparingWrite ∧ step = .s4) ∨
      (kind = .sparingMark ∧ step = .s5) →
    let w := workOf kind ⟨641, 2⟩ none
    let a := fourthMark (.work w) ⟨641, 2⟩
    let s : State := { sparingWith kind ⟨641, 2⟩ none true with
      active := some a, orders := [spareOrder step]
      mapBuffer := ⟨some ⟨0, false⟩, [], List.replicate 4 (.bytes 0#4096)⟩ }
    s.followUps = [] ∧ mediaCanonical s.media = true ∧ s.active = some a ∧ a.drive = 0 ∧ a.phase = .ready ∧
    a.leaving = none ∧ a.abandoned = false ∧ a.blockMarks = some 3 ∧ a.fieldFailed = false ∧ s.dataPath.pacing < 16 ∧
    (s.drive 0).installed = true ∧ a.conn = .work w ∧ s.work 0 = some w ∧ w.result = none ∧ a.diskBlock < 24 ∧
    w.kind = kind ∧ s.mapBuffer.blocks[a.diskBlock]? = some (.bytes 0#4096) ∧
    s.startedOrder 0 = some (spareOrder step) ∧ (spareOrder step).kind = .spare 1207 .history ∧
    (spareOrder step).newAlt = some 14 :=
  ⟨by decide, by rintro _ (rfl | rfl) <;> decide +kernel, by
    rintro _ _ (⟨rfl, rfl⟩ | ⟨rfl, rfl⟩ | ⟨rfl, rfl⟩) <;> decide +kernel⟩

/-- R128, R140: a write block whose LOST mark is cleared is recorded at its fourth mark, field and content. -/
theorem test_write_block_recorded :
    (let a := { fourthMark (.host packageW (driveSlot 0)) ⟨100, 2⟩ with rewrite := some ⟨100, 2, 3, .normal, none, false⟩ }
     let s := writeConnected none 0
     let s := { s with active := some a, dataPath := { s.dataPath with ring := [drainingSlot 0 .draining] } }
     (after (.sectorMark 0 bare) s).recorded 0 ⟨100, 2⟩ 3) =
      ⟨⟨⟨100, 2, 3, .normal, none, false⟩, .generated⟩, ⟨.bytes 0#4096, .generated⟩⟩ := by decide +kernel

theorem witness_AccessEstimateStages :
    (0 ≤ 655 ∧ 655 ≤ 655 ∧ 95 ≤ 95 ∧ 23 ≤ 23 ∧ 2 ≤ 2 ∧ 8 ≤ 8) ∧ [0, 1, 31, 32, 653, 654, 655].map seekEstimate =
      [0, 42, 102, 104, 311, 312, 312] := by decide

/-- An urgent request is chosen before one with a smaller estimate. -/
theorem witness_DispatchChoice :
    let near : Entry := ⟨.A, .readBlocks, { read4 with firstBlock := 11 }, 0, .queued, none, none, none⟩
    let far (n : Nat) : Entry := ⟨.B, .readBlocks, { read4 with cyl := 639 }, n, .queued, none, none, none⟩
    State.chosen { idleUnit with queue := [near, far 7] } 0 = some near ∧
    State.chosen { idleUnit with queue := [near, far 8] } 0 = some (far 8) ∧
    State.eligibleSet idleUnit 0 = [] ∧ (idleUnit.drive 0).rotationKnown = true := by decide

/-- A table with the track's entry between two others, one without it, and an order in S1 whose turn has come. -/
theorem witness_RestoreUndoesWriteAhead :
    (let m : DriveMap := { DriveMap.powerOn with table := [⟨12, 3, .committed, none⟩, ⟨1207, 14, .committed, none⟩] }
     ascending m.table = true ∧ (∀ e ∈ m.table, e.track = 1207 → e.state = .committed ∧ e.former = none) ∧
      (m.writeAhead 1207 20).table = [⟨12, 3, .committed, none⟩, ⟨1207, 20, .copying, some 14⟩]) ∧
    (let m : DriveMap := { DriveMap.powerOn with table := [⟨12, 3, .committed, none⟩, ⟨1300, 14, .committed, none⟩] }
     ascending m.table = true ∧ (∀ e ∈ m.table, e.track ≠ 1207)) ∧
    let s : State := { unitIn .sparing with mapBuffer := ⟨none, [⟨0, false⟩, ⟨0, true⟩], []⟩, orders := [spareOrder .s1] }
    s.followUps = [] ∧ s.mapBuffer.owner = none ∧ s.mapBuffer.waiting = ⟨0, false⟩ :: [⟨0, true⟩] ∧
    (⟨0, false⟩ : MapOp) ∉ [(⟨0, true⟩ : MapOp)] ∧ s.orders = [spareOrder .s1] ∧ (spareOrder .s1).drive = 0 ∧
    (spareOrder .s1).kind = .spare 1207 .history ∧ (spareOrder .s1).step = .s1 ∧
    (spareOrder .s1).newAlt = some 14 ∧ (s.drive 0).unanswered = .stopped := by decide

theorem witness_RequestMessageReadsBack :
    DriveRequest.wellFormed ⟨63, 7, 1023, 15, 31, 127, ⟨true, true, true, true, true, true⟩⟩ = true ∧ 63 < 64 ∧
    unknownKindCode 0 = true ∧ unknownKindCode 14 = true := by decide

/-- 3.9.1: drive 3 at cylinder 100, angle 40, 100/7 committed to alternate 14, three reads waiting. -/
def threeReads : State :=
  let flags := noFlags
  let s := State.reset.onDrive 3 ready
  { s with
    maps := s.maps.set 3 { s.map 3 with table := [⟨1207, 14, .committed, none⟩] }
    queue :=
      [⟨.A, .readBlocks, ⟨1, 3, 130, 2, 5, 6, flags⟩, 0, .queued, none, none, none⟩,
       ⟨.B, .readBlocks, ⟨2, 3, 100, 7, 12, 4, flags⟩, 0, .queued, none, none, none⟩,
       ⟨.C, .readBlocks, ⟨3, 3, 100, 0, 10, 4, flags⟩, 0, .queued, none, none, none⟩] }

/-- 3.9.1: port C's read is chosen, the others' bypass counts rise, no SEEK is issued, and the window of block 10 waits at
sector 38. -/
theorem test_three_reads :
    (let t := (offer 3 ⟨threeReads, []⟩).st
     (t.queue.map fun e => (e.bypass, e.status), t.out, (t.drive 3).state, t.window 3)) =
      ([(1, .queued), (1, .queued), (0, .dispatched)], [.bus 3 (.headSelect 0)], .orienting, ⟨.waiting, 10, 38, false⟩) := by
  decide +kernel

/-- Drive 0 at the end of S6, whose map write has failed, and drive 1 IDLE with a HISTORY order; drive 2 has an unplaced
recovery. -/
def s6Failed : State :=
  let s := ended .mapReadBack .failed .s6
  let s := (s.onDrive 1 ready).onDrive 2 ready
  let s := s.onMap 2 fun m => { m with table := [⟨60, 5, .copying, none⟩], unplaced := [60] }
  let placed (n : Nat) (g : Origin) (d : DriveNo) : Order := ⟨.spare n g, d, none, .notStarted, none, none, 0, false⟩
  { s with
    orders := s.orders ++ [placed 24 .request 0, placed 36 .history 1]
    mapBuffer := ⟨some ⟨0, false⟩, [], []⟩
    image := { s.image with owner := .order 0 } }

/-- R170, R163, R36, R164: the freed places are filled before the search at the freed Image Area, so the RECOVERY order at
the head starts. -/
theorem test_freed_places_before_search :
    (let t := after (.mapWriteEnd 0) s6Failed
     ((t.orders.map fun o => (o.kind, o.drive, o.step)), t.image.owner, (t.drive 0).mapState)) =
      ([(.spare 60 .recovery, 2, .s3), (.spare 36 .history, 1, .notStarted)], .order 2, .degraded) := by decide +kernel

/-- 1.6: the SEEK is issued again from cylinder 0; a second failure faults the drive and its request. -/
theorem test_seek_again : ((after (.positioned 0 0) recalUnit).drive 0).target = some 100 ∧
    ((after (.positioned 0 0) recalUnit).drive 0).recalCount = 1 := by decide +kernel
theorem test_second_failure : ((after (.seekTimeout 0) (seekTo 1)).drive 0).state = .faulted ∧
    ((after (.seekTimeout 0) (seekTo 1)).port .A).status.map CompletionRecord.outcome = [.check] := by decide +kernel

/-- R4, R17: a context that a reset has taken away sends no OFFSET to a drive that is no longer ready. -/
theorem test_no_offset_to_lost_drive :
    (let a := { activeOf (.host packageW (driveSlot 0)) none with abandoned := true }
     let s := { writeConnected none 0 with active := some a, queue := [] }
     let t := after (.readyFalling 0) (s.onDrive 0 fun r => { r with offset := .plus })
     (t.out, (t.drive 0).offset, t.active, t.arbiter.holder)) = ([], .none, none, none) := by decide +kernel

/-- A map load that a string reset has overtaken, its SEEK to 655 unanswered. -/
def overtakenLoad : State :=
  let s := withDrive fun r =>
    { ready r with state := .loadingMap, target := some 655, timer := .ms120, recalCount := 1, mapState := .none }
  after .stringResetComplete { s with stringReset := some ⟨none⟩ }

/-- R19: the record's items are set, and the load still goes on with the answer of its SEEK. -/
theorem test_load_outlasts_string_reset :
    (let r := overtakenLoad.drive 0
     (r.state, r.target, r.timer, r.recalCount)) = (.loadingMap, none, .stopped, 0) ∧
    (let t := after (.positioned 0 655) overtakenLoad
     ((t.drive 0).cylinder, t.mapBuffer.owner)) = (655, some ⟨0, true⟩) := by decide +kernel

/-- R104, R179: a track's first block on its alternate is counted in a verify pass too, the next one is not. -/
theorem test_relocated_in_verify_pass :
    (let p := { packageA with verify := true }
     let a := activeOf (.host p (driveSlot 0)) none
     let p := p.finish a ⟨641, 2⟩
     (p.relocated, p.conditions, p.transferred, (p.finish a ⟨641, 2⟩).relocated)) = (1, [.alternateUsed], 1, 1) := by decide

end Sys2Proof.Tests
end

/-! SUPPORT. Proofs about map operations: the map buffer taken, the end of a map load, the end of a map write. -/

namespace Sys2Proof.Machine.MapOperations

/-! ## The commands' arms -/

theorem exec_mapBufferTaken (s : State) : exec .mapBufferTaken s = complete (fun t => t.upd State.bufferNext) s := rfl

theorem exec_mapLoadEnd (d : DriveNo) (s : State) : exec (.mapLoadEnd d) s = complete (mapLoadEnd d) s := rfl

theorem exec_mapWriteEnd (d : DriveNo) (s : State) : exec (.mapWriteEnd d) s = complete (mapWriteEnd d) s := rfl

/-! ## Follow-ups that find nothing to do

A step's follow-ups leave a state as it is when it holds no request, no order and no debt of the Spare Map Unit. -/

/-- With an empty Request Queue no request is chosen for any drive. -/
theorem chosen_of_no_requests (s : State) (d : DriveNo) (hq : s.queue = []) : s.chosen d = none := by
  simp [State.chosen, State.eligibleSet, hq, leastEstimate]

/-- Without orders and requests an offer at a drive whose rotation is known does nothing (R41, R43). -/
theorem offer_of_no_work (d : DriveNo) (t : Turn) (hq : t.st.queue = []) (ho : t.st.orders = [])
    (hr : (t.st.drive d).rotationKnown = true) : offer d t = t :=
  offer_nothing d t (by simp [State.oldestOrder, ho]) (chosen_of_no_requests _ _ hq) hr

/-- Without orders the freed Image Area starts none (R164). -/
theorem imageFreed_of_no_orders (t : Turn) (ho : t.st.orders = []) : imageFreed t = t := by
  simp [imageFreed, State.nextOrder, ho]

/-- With an empty Request Queue no image service is dispatched (R136). -/
theorem imageDispatch_of_no_requests (s : State) (hq : s.queue = []) : s.imageDispatch = s := by
  unfold State.imageDispatch
  split
  · rfl
  · split <;> simp [hq]

/-- No drive has an unplaced recovery or is owed a map write (R24, R32). -/
def NothingOwed (s : State) : Prop := ∀ k, (s.map k).unplaced = [] ∧ (s.map k).writeOwed = false

/-- A freed place is left free when no drive is owed an order (R36). -/
theorem fillPlace_of_nothing_owed (t : Turn) (h : NothingOwed t.st) : fillPlace t = t := by
  unfold fillPlace
  have hu : (allDrives.find? fun d => !(t.st.map d).unplaced.isEmpty) = none :=
    List.find?_eq_none.2 fun k _ => by simp [(h k).1]
  have hw : (allDrives.find? fun d =>
      (t.st.drive d).mapState = .loaded && (t.st.map d).writeOwed && !t.st.mapWriteQueued d) = none :=
    List.find?_eq_none.2 fun k _ => by simp [(h k).2]
  simp only [hu, hw, ite_self]

/-- A freed place is left free when no drive is owed an order and no entry awaits one (R36, R160). -/
theorem freedPlace_of_nothing_owed (t : Turn) (h : NothingOwed t.st) (ha : t.st.awaiting = []) :
    freedPlace t = t := by
  simp [freedPlace, fillPlace_of_nothing_owed t h, ha, placeAwaiting]

/-- Follow-ups that each change nothing are all taken and leave the state. -/
theorem settle_of_idle_tasks (s : State) : ∀ (l : List Task) (n : Nat), l.length ≤ n →
    (∀ x ∈ l, ∀ rest, runTask x ⟨s, rest⟩ = ⟨s, rest⟩) → settle n ⟨s, l⟩ = ⟨s, []⟩
  | [], n, _, _ => settle_nil n s
  | x :: l, n + 1, hn, h => by
    rw [settle_cons, h x (by simp)]
    exact settle_of_idle_tasks s l n (by simpa using hn) fun y hy => h y (by simp [hy])

theorem close_of_idle_tasks (s : State) (l : List Task) (hf : s.followUps = []) (hl : l.length ≤ 1000)
    (h : ∀ x ∈ l, ∀ rest, runTask x ⟨s, rest⟩ = ⟨s, rest⟩) : (Turn.mk s l).close = s := by
  have hc : (Turn.mk s l).close = (Turn.mk s []).close := by
    simp only [Turn.close, settle_of_idle_tasks s l 1000 hl h, settle_nil]
  rw [hc, Turn.close_nil s hf]

/-- The follow-ups that a unit without requests, orders and debts leaves undone. -/
theorem close_of_quiet_unit (s : State) (d : DriveNo) (l : List Task) (hf : s.followUps = []) (hl : l.length ≤ 1000)
    (hq : s.queue = []) (ho : s.orders = []) (ha : s.awaiting = []) (hn : NothingOwed s)
    (hr : (s.drive d).rotationKnown = true) (h : ∀ x ∈ l, x = .freedPlace ∨ x = .imageFreed ∨ x = .offer d) :
    (Turn.mk s l).close = s :=
  close_of_idle_tasks s l hf hl fun x hx rest => by
    rcases h x hx with rfl | rfl | rfl
    · exact freedPlace_of_nothing_owed ⟨s, rest⟩ hn ha
    · exact imageFreed_of_no_orders ⟨s, rest⟩ ho
    · exact offer_of_no_work d ⟨s, rest⟩ hq ho hr

/-! ## A drive that enters IDLE (R10) -/

/-- The drive record in IDLE, without work. -/
def restingRecord (r : DriveRecord) : DriveRecord :=
  { r with
    state := .idle, dispatched := none, recalCount := 0, mismatch := none, orphaned := false, boundaryMissed := false }

/-- The unit with drive `d` in IDLE and its slot free. -/
def atRest (d : DriveNo) (s : State) : State := (s.onDrive d restingRecord).setSlot (driveSlot d) none

theorem enterIdle_eq (d : DriveNo) (t : Turn) : enterIdle d t = (t.upd (atRest d)).push (.offer d) := rfl

theorem atRest_drive (d k : DriveNo) (s : State) :
    (atRest d s).drive k = if d = k then restingRecord (s.drive d) else s.drive k := by
  simp [atRest, State.onDrive_drive]

theorem atRest_rotationKnown (d : DriveNo) (s : State) :
    ((atRest d s).drive d).rotationKnown = (s.drive d).rotationKnown := by
  rw [atRest_drive, if_pos rfl]; rfl

theorem atRest_slot (d : DriveNo) (i : Fin 9) (s : State) :
    (atRest d s).slot i = if driveSlot d = i then none else s.slot i := by
  simp [atRest, State.setSlot_slot]

/-! ## The work context and the map buffer at the end of a map operation (R29, R102) -/

/-- The unit with drive `d`'s work taken away, the map buffer given up and nothing sent out yet. -/
def operationEnded (d : DriveNo) (s : State) : State :=
  { s with works := s.works.set d none, mapBuffer := { s.mapBuffer with owner := none }, out := [] }

/-- The drive whose operation owns the map buffer gives it up; no operation that waits is its own. -/
theorem leaveBuffer_of_owner (s : State) (d : DriveNo) (b : Bool) (ho : s.mapBuffer.owner = some ⟨d, b⟩)
    (hw : ∀ o ∈ s.mapBuffer.waiting, o.drive ≠ d) :
    s.leaveBuffer d = { s with mapBuffer := { s.mapBuffer with owner := none } } := by
  simpa [State.leaveBuffer, ho] using hw

theorem setWork_leaveBuffer_of_owner (s : State) (d : DriveNo) (b : Bool) (ho : s.mapBuffer.owner = some ⟨d, b⟩)
    (hw : ∀ o ∈ s.mapBuffer.waiting, o.drive ≠ d) :
    ((s.sending []).setWork d none).leaveBuffer d = operationEnded d s :=
  leaveBuffer_of_owner _ d b ho hw

theorem works_set_work (s : State) (d k : DriveNo) (w : Option Work) :
    (s.works.set d w)[k] = if d = k then w else s.work k :=
  State.setWork_work s d k w

theorem setWork_eq_self (s : State) (d : DriveNo) (w : Option Work) (h : s.work d = w) : s.setWork d w = s := by
  subst h
  simp [State.setWork, State.work]

theorem workEnd_of_result (s : State) (d : DriveNo) (kinds : List WorkKind) (w : Work) (r : WorkResult)
    (hw : s.work d = some w) (hk : w.kind ∈ kinds) (hr : w.result = some r) : s.workEnd d kinds = some (w, r) := by
  simp [State.workEnd, hw, hk, hr]

/-! ## A map that becomes DEGRADED while no order and no entry depends on it (R163) -/

theorem onMap_eq_self (s : State) (d : DriveNo) (f : DriveMap → DriveMap) (h : f (s.map d) = s.map d) :
    s.onMap d f = s := by
  have h' : f s.maps[d] = s.maps[d] := h
  cases s
  simp_all [State.onMap]

/-- With an empty Request Queue no HELD entry is released (R27). -/
theorem releaseHeld_of_no_requests (d : DriveNo) (t : Turn) (hq : t.st.queue = []) : releaseHeld d t = t := by
  simp [releaseHeld, State.someReleasable, hq]

/-- A table without COPYING entries has nothing to restore (R163). -/
theorem restoreOthers_of_committed (d : DriveNo) (t : Turn) (hq : t.st.queue = [])
    (hc : ∀ e ∈ (t.st.map d).table, e.state = .committed) (hu : (t.st.map d).unplaced = []) :
    restoreOthers d t = t := by
  have hf : ((t.st.map d).table.filter fun e =>
      e.state = .copying && !((t.st.spareOrder d e.track).any fun o => o.started)) = [] :=
    List.filter_eq_nil_iff.2 fun e he => by simp [hc e he]
  have hm : t.st.onMap d (fun m => { m with unplaced := [] }) = t.st := onMap_eq_self _ _ _ (by rw [← hu])
  simp only [restoreOthers, hf, List.foldl_nil]
  rw [releaseHeld_of_no_requests _ _ (by simpa using hq)]
  simp [Turn.upd, hm]

/-- A map load that leaves a DEGRADED map ends nothing else when the Sparing Queue is empty. -/
theorem mapDegraded_by_load (d : DriveNo) (t : Turn) (ho : t.st.orders = []) (ha : t.st.awaiting = []) :
    mapDegraded d false t = t := by
  simp [mapDegraded, State.unstartedSpare, State.awaitingFor, ho, ha, Turn.each]

/-- A failed map write ends nothing else when moreover no entry of the table is COPYING. -/
theorem mapDegraded_by_write (d : DriveNo) (t : Turn) (ho : t.st.orders = []) (ha : t.st.awaiting = [])
    (hq : t.st.queue = []) (hc : ∀ e ∈ (t.st.map d).table, e.state = .committed) (hu : (t.st.map d).unplaced = []) :
    mapDegraded d true t = t := by
  have hl : mapDegraded d true t = mapDegraded d false (restoreOthers d t) := rfl
  rw [hl, restoreOthers_of_committed d t hq hc hu, mapDegraded_by_load d t ho ha]

/-! ## The map buffer taken by a map load -/

/-- What arming a window changes: the window itself, and the arbiter. -/
theorem armWindow_frame (s : State) (d : DriveNo) (b l : Nat) (h : Bool) :
    s.armWindow d b l h =
      { s with windows := (s.armWindow d b l h).windows, arbiter := (s.armWindow d b l h).arbiter } := by
  rw [State.armWindow_eq]
  split <;> rfl

theorem armWindow_works (s : State) (d : DriveNo) (b l : Nat) (h : Bool) :
    (s.armWindow d b l h).works = s.works := by
  rw [State.armWindow_eq]
  split <;> rfl

theorem armWindow_work (s : State) (d k : DriveNo) (b l : Nat) (h : Bool) :
    (s.armWindow d b l h).work k = s.work k := by
  simp only [State.work, armWindow_works]

theorem windows_set_window (s : State) (d k : DriveNo) (a : Arming) :
    (s.windows.set d a)[k] = if d = k then a else s.window k :=
  State.onWindow_window s d k fun _ => a

/-- The window is armed for its block, PENDING when it opens at once (R57, R58); no other drive's window changes. -/
theorem armWindow_window (s : State) (d k : DriveNo) (b l : Nat) (h : Bool) :
    (s.armWindow d b l h).window k =
      if d = k then
        ⟨if (s.drive d).rotationKnown = true ∧ (h = true ∨ (s.drive d).angle = windowSector b l) then .pending
          else .waiting, b, windowSector b l, h⟩
      else s.window k := by
  rw [State.armWindow_eq]
  split
  case isTrue hb =>
    have hopen : (s.drive d).rotationKnown = true ∧ (h = true ∨ (s.drive d).angle = windowSector b l) := by
      simpa using hb
    rw [if_pos hopen]
    exact windows_set_window s d k _
  case isFalse hb =>
    have hclosed : ¬ ((s.drive d).rotationKnown = true ∧ (h = true ∨ (s.drive d).angle = windowSector b l)) := by
      simpa using hb
    rw [if_neg hclosed]
    exact windows_set_window s d k _

/-- The unit with the map buffer taken by drive `d`'s map load, `rest` still waiting, and the work context made (R102). -/
def loadBegun (d : DriveNo) (rest : List MapOp) (s : State) : State :=
  { s with
    mapBuffer := ⟨some ⟨d, true⟩, rest, []⟩
    works := s.works.set d (some ⟨.mapLoad, mapTrack, 0, 4, 0, none, none, none⟩)
    out := [] }

theorem loadBegun_work (d k : DriveNo) (rest : List MapOp) (s : State) :
    (loadBegun d rest s).work k =
      if d = k then some ⟨.mapLoad, mapTrack, 0, 4, 0, none, none, none⟩ else s.work k :=
  works_set_work s d k _

@[simp] theorem loadBegun_drive (d k : DriveNo) (rest : List MapOp) (s : State) :
    (loadBegun d rest s).drive k = s.drive k := rfl

/-- A map load that takes the buffer has its window armed when the arm stands still (R31). -/
theorem takeBuffer_load (s : State) (d : DriveNo) (rest : List MapOp)
    (hr : s.mapBuffer.waiting.filter (· ≠ ⟨d, true⟩) = rest) (h : (s.drive d).unanswered = .stopped) :
    (s.sending []).takeBuffer ⟨d, true⟩ = (loadBegun d rest s).armWindow d 0 workLead false := by
  subst hr
  have hd : ((loadBegun d (s.mapBuffer.waiting.filter (· ≠ ⟨d, true⟩)) s).drive d).unanswered = .stopped := h
  show (loadBegun d (s.mapBuffer.waiting.filter (· ≠ ⟨d, true⟩)) s).armWork d = _
  simp only [State.armWork, loadBegun_work, hd, if_true]

theorem bufferNext_of_owner (s : State) (h : s.mapBuffer.owner ≠ none) : s.bufferNext = s := by
  unfold State.bufferNext
  split
  · contradiction
  · rfl

theorem bufferNext_of_waiting (s : State) (op : MapOp) (rest : List MapOp) (ho : s.mapBuffer.owner = none)
    (hw : s.mapBuffer.waiting = op :: rest) : s.bufferNext = s.takeBuffer op := by
  simp [State.bufferNext, ho, hw]

/-- Settles O49: the waiting map load takes the buffer, and what it leaves is `loadBegun` with its window armed. -/
theorem mapBufferTakenByLoad : Obligations.MapBufferTakenByLoad := by
  intro s d rest hf
  rw [exec_mapBufferTaken, complete_of_settled _ _ hf]
  simp only [Turn.upd]
  constructor
  · intro ho
    rw [bufferNext_of_owner (s.sending []) ho, Turn.close_nil (s.sending []) hf]
  · intro ho hw hnot hstill
    have hrest : s.mapBuffer.waiting.filter (· ≠ ⟨d, true⟩) = rest := by
      rw [hw, List.filter_cons_of_neg (by simp)]
      exact List.filter_eq_self.2 fun o h => decide_eq_true fun e => hnot (e ▸ h)
    rw [bufferNext_of_waiting (s.sending []) ⟨d, true⟩ rest ho hw, takeBuffer_load s d rest hrest hstill]
    refine ⟨_, congrArg _ (Turn.close_nil _ ?_), ?_, ?_, fun k hk => ?_, ?_, fun k hk => ?_⟩
    · rw [armWindow_frame]; exact hf
    · rw [armWindow_works]; exact armWindow_frame _ _ _ _ _
    · rw [armWindow_work, loadBegun_work, if_pos rfl]; rfl
    · rw [armWindow_work, loadBegun_work, if_neg hk.symm]
    · rw [armWindow_window, if_pos rfl]
      simp [windowSector, workLead]
    · rw [armWindow_window, if_neg hk.symm]; rfl

/-! ## The end of a map load (R31–R33) -/

/-- An offer at a drive without work is the last follow-up, and changes nothing. -/
theorem close_of_offer (s : State) (d : DriveNo) (hf : s.followUps = []) (hq : s.queue = []) (ho : s.orders = [])
    (hr : (s.drive d).rotationKnown = true) : (Turn.mk s [.offer d]).close = s :=
  close_of_idle_tasks s _ hf (by simp) fun x hx rest => by
    obtain rfl := List.mem_singleton.1 hx
    exact offer_of_no_work d ⟨s, rest⟩ hq ho hr

theorem recordOfBlocks_parts (m : MapRecord) :
    recordOfBlocks [.mapPart m 0, .mapPart m 1, .mapPart m 2, .mapPart m 3] = m := by
  simp [recordOfBlocks]

/-- With an empty Request Queue no entry becomes HELD (R27). -/
theorem holdTouching_of_no_requests (s : State) (d : DriveNo) (hq : s.queue = []) : s.holdTouching d = s := by
  cases s
  simp_all [State.holdTouching]

/-- A set with a drive in it is not empty. -/
theorem set_ne_noDrives (v : Vector Bool 8) (d : DriveNo) : v.set d true ≠ noDrives := by
  intro h
  have hd : (v.set d true)[d] = noDrives[d] := by rw [h]
  simp [noDrives] at hd

/-- A drive joins every port's Attention Set, which raises Status Pending (R67, R181). -/
theorem addAttention_port (s : State) (d : DriveNo) (q : Port) :
    (s.addAttention d).port q =
      { s.port q with attention := (s.port q).attention.set d true, statusPending := true } := by
  have hu : ∀ u : PortUnit, PortUnit.refreshPending { u with attention := u.attention.set d true } =
      { u with attention := u.attention.set d true, statusPending := true } := fun u => by
    simp [PortUnit.refreshPending, set_ne_noDrives]
  cases q <;> simp [State.addAttention, allPorts, State.onPort_port, hu]

/-- The unit at the end of drive `d`'s map load, with the map state, table and retired set that the load leaves. -/
def loadEnded (d : DriveNo) (map : MapState) (table : List SpareEntry) (retired : List Nat) (s : State) : State :=
  atRest d (((operationEnded d s).loadMap d table retired map).addAttention d)

theorem loadEnded_eq (d : DriveNo) (map : MapState) (table : List SpareEntry) (retired : List Nat) (s : State) :
    loadEnded d map table retired s =
      { s with
        drives := (loadEnded d map table retired s).drives, ports := (loadEnded d map table retired s).ports
        slots := (loadEnded d map table retired s).slots, works := (loadEnded d map table retired s).works
        maps := (loadEnded d map table retired s).maps
        mapBuffer := { s.mapBuffer with owner := none }, out := [] } := rfl

theorem loadEnded_drive (d k : DriveNo) (map : MapState) (table : List SpareEntry) (retired : List Nat) (s : State) :
    (loadEnded d map table retired s).drive k =
      if d = k then restingRecord { s.drive d with mapState := map } else s.drive k := by
  have hd : ∀ j, (((operationEnded d s).loadMap d table retired map).addAttention d).drive j =
      ((operationEnded d s).onDrive d fun r => { r with mapState := map }).drive j := fun _ => rfl
  rw [loadEnded, atRest_drive, hd, hd, State.onDrive_drive_self, State.onDrive_drive]
  split <;> rfl

theorem loadEnded_work (d k : DriveNo) (map : MapState) (table : List SpareEntry) (retired : List Nat) (s : State) :
    (loadEnded d map table retired s).work k = if d = k then none else s.work k :=
  works_set_work s d k none

theorem loadEnded_map (d k : DriveNo) (map : MapState) (table : List SpareEntry) (retired : List Nat) (s : State) :
    (loadEnded d map table retired s).map k =
      if d = k then { s.map d with table := table, retired := retired, writeOwed := false, unplaced := [] }
      else s.map k :=
  State.onMap_map s d k fun m => { m with table := table, retired := retired, writeOwed := false, unplaced := [] }

theorem loadEnded_port (d : DriveNo) (q : Port) (map : MapState) (table : List SpareEntry) (retired : List Nat)
    (s : State) : (loadEnded d map table retired s).port q =
      { s.port q with attention := (s.port q).attention.set d true, statusPending := true } :=
  addAttention_port ((operationEnded d s).loadMap d table retired map) d q

section
variable (s : State) (d : DriveNo) (w : Work) (r : WorkResult) (m : MapRecord)

/-- The load's end taken: its work has ended, and the four blocks read as the record. -/
theorem mapLoadEnd_eq_loadEnds (hw : s.work d = some w) (hk : w.kind = .mapLoad) (hr : w.result = some r) :
    mapLoadEnd d ⟨s.sending [], []⟩ = loadEnds d r ⟨s.sending [], []⟩ := by
  simp only [mapLoadEnd, workEnd_of_result (s.sending []) d [.mapLoad] w r hw (by simp [hk]) hr]

/-- A valid record without COPYING entries is loaded (R32). -/
theorem loadEnds_of_valid (ho : s.mapBuffer.owner = some ⟨d, true⟩) (hwait : ∀ o ∈ s.mapBuffer.waiting, o.drive ≠ d)
    (hb : s.mapBuffer.blocks = [.mapPart m 0, .mapPart m 1, .mapPart m 2, .mapPart m 3]) (hq : s.queue = [])
    (hv : recordValid m = true) (hc : ∀ e ∈ m.entries, e.state = .committed) :
    loadEnds d .done ⟨s.sending [], []⟩ = ⟨loadEnded d .loaded m.entries m.retired s, [.offer d]⟩ := by
  have hcopying : (m.entries.filter fun e => e.state = .copying) = [] :=
    List.filter_eq_nil_iff.2 fun e he => by simp [hc e he]
  have hhold : ((operationEnded d s).loadMap d m.entries m.retired .loaded).holdTouching d = _ :=
    holdTouching_of_no_requests _ d hq
  simp only [loadEnds, State.sending_mapBuffer, hb, recordOfBlocks_parts, Turn.upd,
    setWork_leaveBuffer_of_owner s d true ho hwait, hv, decide_true, Bool.and_self, if_true, hhold, hcopying,
    List.map_nil, placeRecoveries]
  rfl

/-- Without a valid record the map is DEGRADED, its table and retired set empty (R33). -/
theorem loadEnds_of_invalid (ho : s.mapBuffer.owner = some ⟨d, true⟩)
    (hwait : ∀ o ∈ s.mapBuffer.waiting, o.drive ≠ d)
    (hb : s.mapBuffer.blocks = [.mapPart m 0, .mapPart m 1, .mapPart m 2, .mapPart m 3]) (horders : s.orders = [])
    (ha : s.awaiting = []) (hv : r = .failed ∨ recordValid m = false) :
    loadEnds d r ⟨s.sending [], []⟩ = ⟨loadEnded d .degraded [] [] s, [.offer d]⟩ := by
  have hno : (decide (r = .done) && recordValid m) = false := by
    rcases hv with rfl | hv
    · rfl
    · simp [hv]
  have hdeg : mapDegraded d false ⟨(operationEnded d s).loadMap d [] [] .degraded, []⟩ = _ :=
    mapDegraded_by_load d _ horders ha
  simp only [loadEnds, State.sending_mapBuffer, hb, recordOfBlocks_parts, Turn.upd,
    setWork_leaveBuffer_of_owner s d true ho hwait, hno, Bool.false_eq_true, if_false, hdeg]
  rfl

end

/-- Settles O50: both ends of a map load are `loadEnded`, after which the offer finds no work. -/
theorem mapLoadEnds : Obligations.MapLoadEnds := by
  intro s d w result m hf _ hw hk hr ho hwait hb hq horders ha _ _ hrot ends
  have hends : ∀ map table retired,
      loadEnds d result ⟨s.sending [], []⟩ = ⟨loadEnded d map table retired s, [.offer d]⟩ →
      ends map table retired := by
    intro map table retired hl
    have hclose : (Turn.mk (loadEnded d map table retired s) [.offer d]).close = loadEnded d map table retired s :=
      close_of_offer _ d hf hq horders (by rw [loadEnded_drive, if_pos rfl]; exact hrot)
    refine ⟨loadEnded d map table retired s, ?_, loadEnded_eq _ _ _ _ _, ?_, fun j hj => ?_, ?_, ?_, fun j hj => ?_,
      fun q => loadEnded_port _ _ _ _ _ _⟩
    · rw [exec_mapLoadEnd, complete_of_settled _ _ hf, mapLoadEnd_eq_loadEnds s d w result hw hk hr, hl, hclose]
    · rw [loadEnded_drive, if_pos rfl]; rfl
    · rw [loadEnded_drive, if_neg hj.symm]
    · rw [loadEnded_work, if_pos rfl]
    · rw [loadEnded_map, if_pos rfl]
    · rw [loadEnded_map, if_neg hj.symm]
  constructor
  · rintro rfl hv hc
    exact hends _ _ _ (loadEnds_of_valid s d m ho hwait hb hq hv hc)
  · intro hv
    exact hends _ _ _ (loadEnds_of_invalid s d result m ho hwait hb horders ha hv)

/-! ## The one order of the Sparing Queue -/

theorem sameOrder_self (o : Order) : sameOrder o o = true := by
  cases hk : o.kind <;> simp [sameOrder, hk]

theorem startedOrder_of_only (s : State) (d : DriveNo) (o : Order) (h : s.orders = [o]) (hd : o.drive = d)
    (hs : o.step ≠ .notStarted) : s.startedOrder d = some o := by
  simp [State.startedOrder, Order.started, h, hd, hs]

theorem onStarted_of_only (s : State) (d : DriveNo) (o : Order) (f : Order → Order) (h : s.orders = [o])
    (hd : o.drive = d) (hs : o.step ≠ .notStarted) : s.onStarted d f = { s with orders := [f o] } := by
  simp [State.onStarted, Order.started, h, hd, hs]

/-- The one order leaves: the queue is empty, and the freed place is to be filled (R159, R160). -/
theorem orderLeaves_of_only (o : Order) (t : Turn) (h : t.st.orders = [o]) (hr : o.requester = none) :
    orderLeaves o t = (t.upd fun s => { s with orders := [] }).push .freedPlace := by
  have hl : (t.st.orders.filter fun x => !sameOrder x o) = [] := by simp [h, sameOrder_self]
  simp only [orderLeaves, hr, Turn.upd, hl]

/-! ## Entering a step whose drive SEEKs (R167, R168) -/

/-- The unit with HEAD SELECT and SEEK to a track sent to drive `d`. -/
def sentTo (d : DriveNo) (track : Track) (s : State) : State :=
  State.onDrive { s with out := s.out ++ [.bus d (.headSelect track.head), .bus d (.seek track.cyl)] } d fun r =>
    { r with head := track.head, offset := .none, target := some track.cyl, timer := .ms120 }

theorem headSelect_seek (s : State) (d : DriveNo) (track : Track) :
    (s.headSelect d track.head).seek d track.cyl = sentTo d track s := by
  simp [sentTo, State.headSelect, State.seek, State.emit, State.onDrive]

/-- S3 and S4 SEEK whatever the distance. -/
theorem sendToStep_seeks (s : State) (d : DriveNo) (o : Order) (h : s.startedOrder d = some o)
    (hs : o.step = .s3 ∨ o.step = .s4) : s.sendToStep d = sentTo d o.place s := by
  have hfar : (o.step = .s3 || o.step = .s4) = true := by simpa using hs
  simp only [State.sendToStep, h, hfar, Bool.true_or, if_true, headSelect_seek]

/-- The one order enters S3 or S4. -/
theorem onStarted_sendToStep (s : State) (d : DriveNo) (o : Order) (step : OrderStep) (h : s.orders = [o])
    (hd : o.drive = d) (hs : o.step ≠ .notStarted) (hstep : step = .s3 ∨ step = .s4) :
    (s.onStarted d fun o => { o with step := step }).sendToStep d =
      sentTo d { o with step := step }.place { s with orders := [{ o with step := step }] } := by
  have hn : step ≠ .notStarted := by rcases hstep with rfl | rfl <;> decide
  rw [onStarted_of_only s d o _ h hd hs]
  exact sendToStep_seeks _ d { o with step := step } (startedOrder_of_only _ d _ rfl hd hn) hstep

theorem enterS3_of_only (d : DriveNo) (o : Order) (t : Turn) (h : t.st.orders = [o]) (hd : o.drive = d)
    (hs : o.step ≠ .notStarted) :
    enterS3 d t = t.upd fun s =>
      sentTo d { o with step := .s3 }.place
        { s with
          orders := [{ o with step := .s3 }]
          image := { s.image with source := some { o with step := .s3 }.place } } := by
  have hplace : (sentTo d { o with step := .s3 }.place { t.st with orders := [{ o with step := .s3 }] }).workPlace d =
      { o with step := .s3 }.place := by
    simp only [State.workPlace, startedOrder_of_only
      (sentTo d { o with step := .s3 }.place { t.st with orders := [{ o with step := .s3 }] }) d { o with step := .s3 }
      rfl hd (by simp)]
  simp only [enterS3, enterStep, Turn.upd, onStarted_sendToStep t.st d o .s3 h hd hs (.inl rfl), reduceCtorEq, if_false,
    hplace]
  rfl

theorem enterS4_of_only (d : DriveNo) (o : Order) (t : Turn) (h : t.st.orders = [o]) (hd : o.drive = d)
    (hs : o.step ≠ .notStarted) :
    enterStep d .s4 t =
      (t.upd fun s => sentTo d { o with step := .s4 }.place { s with orders := [{ o with step := .s4 }] }).push
        .imageCheck := by
  simp only [enterStep, Turn.upd, onStarted_sendToStep t.st d o .s4 h hd hs (.inr rfl), if_true]

/-! ## The end of an order in S7 (R170) -/

theorem recommendWhere_of_none (p : HistoryEntry → Bool) : ∀ (k : Nat) (l : List HistoryEntry),
    (∀ e ∈ l, p e = false) → recommendWhere p k l = l
  | _, [], _ => rfl
  | k, e :: l, h => by
    simp [recommendWhere, h e (by simp), recommendWhere_of_none p k l fun x hx => h x (by simp [hx])]

/-- A committed order takes the entries of the replaced track away; it had raised no other (R158). -/
theorem committedMarks_of_raised (s : State) (d : DriveNo) (n : Nat) (replaced : Track)
    (h : ∀ e ∈ s.history, e.drive = d → e.raised = some n → e.track = replaced) :
    s.committedMarks d n replaced =
      { s with history := s.history.filter fun e => decide (e.drive ≠ d ∨ e.track ≠ replaced) } := by
  have hf : (s.history.filter fun e => !(e.drive = d && e.track = replaced)) =
      s.history.filter fun e => decide (e.drive ≠ d ∨ e.track ≠ replaced) :=
    List.filter_congr fun e _ => by simp
  have hr : ∀ e ∈ s.history.filter (fun e => decide (e.drive ≠ d ∨ e.track ≠ replaced)),
      (decide (e.drive = d) && decide (e.raised = some n)) = false := by
    intro e he
    obtain ⟨hmem, hkept⟩ := List.mem_filter.1 he
    have hnot : ¬ (e.drive = d ∧ e.raised = some n) := fun ⟨hdrive, hby⟩ =>
      (of_decide_eq_true hkept).elim (· hdrive) (· (h e hmem hdrive hby))
    rw [← Bool.decide_and, decide_eq_false hnot]
  simp only [State.committedMarks, State.unraise, hf, recommendWhere_of_none _ _ _ hr]

/-- Without an image service context the freed Image Area has no owner, and the search of R164 is due. -/
theorem releaseImage_of_no_context (t : Turn) (h : t.st.slot imageSlot = none) :
    releaseImage t =
      (t.upd fun s => { s with image := { s.image with owner := .none, tags := emptyTags } }).push .imageFreed := by
  simp [releaseImage, h]

/-- The unit with the one order, whose data `replaced` held before, gone in S7: its history entries, the Image Area and its
place in the queue are given up. -/
def orderGone (d : DriveNo) (replaced : Track) (s : State) : State :=
  { s with
    history := s.history.filter fun e => decide (e.drive ≠ d ∨ e.track ≠ replaced)
    image := { s.image with owner := .none, tags := emptyTags }
    orders := [] }

theorem finishOrder_of_only (d : DriveNo) (s : State) (o : Order) (n : Nat) (h : s.orders = [o]) (hd : o.drive = d)
    (hs : o.step ≠ .notStarted) (hn : o.track = some n) (hr : o.requester = none) (hq : s.queue = [])
    (hw : s.work d = none) (hi : s.slot imageSlot = none)
    (hraised : ∀ e ∈ s.history, e.drive = d → e.raised = some n → e.track = o.sourceTrack n) :
    finishOrder d ⟨s, []⟩ = ⟨atRest d (orderGone d (o.sourceTrack n) s), [.freedPlace, .imageFreed, .offer d]⟩ := by
  let marked : State :=
    { s with history := s.history.filter fun e => decide (e.drive ≠ d ∨ e.track ≠ o.sourceTrack n) }
  have hmarked : (s.committedMarks d n (o.sourceTrack n)).setWork d none = marked := by
    rw [committedMarks_of_raised s d n _ hraised]
    exact setWork_eq_self marked d none hw
  have hrelease : releaseImage ⟨marked, []⟩ = _ := releaseImage_of_no_context _ hi
  simp only [finishOrder, startedOrder_of_only s d o h hd hs, hn, Turn.upd, hmarked, hrelease, answerRequester, hr]
  rw [orderLeaves_of_only o _ h hr, releaseHeld_of_no_requests d _ hq, enterIdle_eq]
  rfl

/-! ## The end of a map write -/

/-- The unit with drive `d`'s map write ended: a failed one leaves the map state DEGRADED (R35). -/
def writeEnded (d : DriveNo) (r : WorkResult) (s : State) : State :=
  if r = .done then operationEnded d s else (operationEnded d s).setMapState d .degraded

theorem writeEnded_eq (d : DriveNo) (r : WorkResult) (s : State) :
    writeEnded d r s = { operationEnded d s with drives := (writeEnded d r s).drives } := by
  cases r <;> rfl

theorem writeEnded_work (d k : DriveNo) (r : WorkResult) (s : State) :
    (writeEnded d r s).work k = if d = k then none else s.work k := by
  rw [writeEnded_eq]
  exact works_set_work s d k none

theorem writeEnded_drive (d k : DriveNo) (r : WorkResult) (s : State) :
    (writeEnded d r s).drive k =
      if d = k then { s.drive d with mapState := if r = .failed then .degraded else (s.drive d).mapState }
      else s.drive k := by
  cases r
  case done =>
    have hsame : (writeEnded d .done s).drive k = s.drive k := rfl
    rw [hsame]
    split
    case isTrue h => subst h; rfl
    case isFalse => rfl
  case failed => exact State.onDrive_drive (operationEnded d s) d k fun r => { r with mapState := .degraded }

theorem writeEnded_rotationKnown (d : DriveNo) (r : WorkResult) (s : State) :
    ((writeEnded d r s).drive d).rotationKnown = (s.drive d).rotationKnown := by
  rw [writeEnded_drive, if_pos rfl]

/-- The end of a map write goes on with what its order does then. -/
theorem mapWriteEnd_eq_mapWriteEnds (s : State) (d : DriveNo) (w : Work) (r : WorkResult) (o : Order)
    (hw : s.work d = some w) (hk : w.kind = .mapWrite ∨ w.kind = .mapReadBack) (hr : w.result = some r)
    (howner : s.mapBuffer.owner = some ⟨d, false⟩) (hwait : ∀ o ∈ s.mapBuffer.waiting, o.drive ≠ d)
    (ho : s.orders = [o]) (hd : o.drive = d) (hs : o.step ≠ .notStarted) :
    mapWriteEnd d ⟨s.sending [], []⟩ = mapWriteEnds d o (r = .done) ⟨writeEnded d r s, []⟩ := by
  have hstarted : (writeEnded d r s).startedOrder d = some o :=
    startedOrder_of_only _ d o (by rw [writeEnded_eq]; exact ho) hd hs
  simp only [mapWriteEnd, workEnd_of_result (s.sending []) d [.mapWrite, .mapReadBack] w r hw (by simpa using hk) hr,
    Turn.upd, setWork_leaveBuffer_of_owner s d false howner hwait]
  rw [← writeEnded, hstarted]

/-- A MAP-WRITE order ends (R173): it leaves the queue, and its drive enters IDLE. -/
theorem finishMapWrite_of_only (d : DriveNo) (s : State) (o : Order) (h : s.orders = [o]) (hr : o.requester = none)
    (hw : s.work d = none) :
    finishMapWrite d o ⟨s, []⟩ = ⟨atRest d { s with orders := [] }, [.freedPlace, .offer d]⟩ := by
  simp only [finishMapWrite, Turn.upd, setWork_eq_self s d none hw]
  rw [orderLeaves_of_only o _ h hr, enterIdle_eq]
  rfl

/-- What a drive's order leaves of the drive, its work and its slot, when it ends at the end of a map write. -/
theorem orderEnded_parts (s u : State) (d : DriveNo) (r : WorkResult) (hw : u.works = (writeEnded d r s).works)
    (hs : u.slots = s.slots) (hd : u.drives = (writeEnded d r s).drives) :
    (atRest d u).work d = none ∧ (∀ j, j ≠ d → (atRest d u).work j = s.work j) ∧
      (atRest d u).slot (driveSlot d) = none ∧ (∀ i, i ≠ driveSlot d → (atRest d u).slot i = s.slot i) ∧
      (atRest d u).drive d =
        restingRecord { s.drive d with mapState := if r = .failed then .degraded else (s.drive d).mapState } ∧
      ∀ j, j ≠ d → (atRest d u).drive j = s.drive j := by
  have hwork : ∀ j, (atRest d u).work j = if d = j then none else s.work j := fun j => by
    rw [← writeEnded_work d j r s]
    simp only [State.work, ← hw]
    rfl
  have hdrive : ∀ j, u.drive j = (writeEnded d r s).drive j := fun j => by simp only [State.drive, hd]
  have hslot : ∀ i, u.slot i = s.slot i := fun i => by simp only [State.slot, hs]
  refine ⟨by rw [hwork, if_pos rfl], fun j hj => by rw [hwork, if_neg hj.symm],
    by rw [atRest_slot, if_pos rfl], fun i hi => by rw [atRest_slot, if_neg hi.symm, hslot], ?_, fun j hj => ?_⟩
  · rw [atRest_drive, if_pos rfl, hdrive, writeEnded_drive, if_pos rfl]
  · rw [atRest_drive, if_neg hj.symm, hdrive, writeEnded_drive, if_neg hj.symm]

/-- The hypotheses of O51: the map write of the one order of the Sparing Queue has ended, at drive `d` of a unit without
requests and debts. -/
structure WriteEnds (s : State) (d : DriveNo) (w : Work) (r : WorkResult) (o : Order) : Prop where
  followUps : s.followUps = []
  work : s.work d = some w
  kind : w.kind = .mapWrite ∨ w.kind = .mapReadBack
  result : w.result = some r
  owner : s.mapBuffer.owner = some ⟨d, false⟩
  waiting : ∀ o ∈ s.mapBuffer.waiting, o.drive ≠ d
  orders : s.orders = [o]
  drive : o.drive = d
  requester : o.requester = none
  awaiting : s.awaiting = []
  queue : s.queue = []
  owed : NothingOwed s

section
variable {s : State} {d : DriveNo} {w : Work} {r : WorkResult} {o : Order}

theorem WriteEnds.exec_eq (h : WriteEnds s d w r o) (hs : o.step ≠ .notStarted) :
    exec (.mapWriteEnd d) s = .next (mapWriteEnds d o (r = .done) ⟨writeEnded d r s, []⟩).close := by
  rw [exec_mapWriteEnd, complete_of_settled _ _ h.followUps,
    mapWriteEnd_eq_mapWriteEnds s d w r o h.work h.kind h.result h.owner h.waiting h.orders h.drive hs]

theorem WriteEnds.orders_writeEnded (h : WriteEnds s d w r o) : (writeEnded d r s).orders = [o] := by
  rw [writeEnded_eq]; exact h.orders

/-- A MAP-WRITE order ends (R173); after a failed write nothing depends on the DEGRADED map (R35). -/
theorem WriteEnds.mapWriteEnds_running (h : WriteEnds s d w r o) (hs : o.step = .running)
    (hc : ∀ e ∈ (s.map d).table, e.state = .committed) :
    mapWriteEnds d o (r = .done) ⟨writeEnded d r s, []⟩ =
      ⟨atRest d { writeEnded d r s with orders := [] }, [.freedPlace, .offer d]⟩ := by
  have hfinish := finishMapWrite_of_only d (writeEnded d r s) o h.orders_writeEnded h.requester
    (by rw [writeEnded_work, if_pos rfl])
  simp only [mapWriteEnds, hs, hfinish]
  split
  · rfl
  · rw [writeEnded_eq]
    exact mapDegraded_by_write d _ rfl h.awaiting h.queue hc (h.owed d).1

/-- A successful map write of S6 ends the order in S7 (R170). -/
theorem WriteEnds.mapWriteEnds_s6 (h : WriteEnds s d w .done o) (hs : o.step = .s6) {n : Nat}
    (hn : o.track = some n) (hi : s.slot imageSlot = none)
    (hraised : ∀ e ∈ s.history, e.drive = d → e.raised = some n → e.track = o.sourceTrack n) :
    mapWriteEnds d o true ⟨operationEnded d s, []⟩ =
      ⟨atRest d (orderGone d (o.sourceTrack n) (operationEnded d s)), [.freedPlace, .imageFreed, .offer d]⟩ := by
  simp only [mapWriteEnds, hs, if_true]
  exact finishOrder_of_only d (operationEnded d s) o n h.orders h.drive (by simp [hs]) hn h.requester h.queue
    ((works_set_work s d d none).trans (if_pos rfl)) hi hraised

/-- A successful map write of S2: the order is recorded on the map, and S3 follows, or S4 when S2 was repeated (R166). -/
theorem mapWriteEnds_s2 (d : DriveNo) (o : Order) (t : Turn) (hs : o.step = .s2) :
    mapWriteEnds d o true t =
      if o.retryCount = 0 then enterS3 d (t.upd fun s => s.onStarted d fun o => { o with recorded := true })
      else enterStep d .s4 (t.upd fun s => s.onStarted d fun o => { o with recorded := true }) := by
  simp only [mapWriteEnds, hs, if_true]

theorem WriteEnds.onStarted_recorded (h : WriteEnds s d w r o) (hs : o.step ≠ .notStarted) :
    ((operationEnded d s).onStarted d fun o => { o with recorded := true }) =
      { operationEnded d s with orders := [{ o with recorded := true }] } :=
  onStarted_of_only (operationEnded d s) d o _ h.orders h.drive hs

/-- The unit after a successful map write of S2: the order, recorded on the map, in its next step, and its drive sent to
the track of that step. -/
def stepEntered (d : DriveNo) (o : Order) (step : OrderStep) (track : Track) (source : Option Track) (s : State) :
    State :=
  sentTo d track { operationEnded d s with
    orders := [{ o with step := step, recorded := true }], image := { s.image with source := source } }

theorem WriteEnds.mapWriteEnds_s2_first (h : WriteEnds s d w r o) (hs : o.step = .s2) (h0 : o.retryCount = 0) {n : Nat}
    {g : Origin} (hk : o.kind = .spare n g) :
    mapWriteEnds d o true ⟨operationEnded d s, []⟩ =
      ⟨stepEntered d o .s3 (o.sourceTrack n) (some (o.sourceTrack n)) s, []⟩ := by
  have hstarted : o.step ≠ .notStarted := by simp [hs]
  have hplace : { o with step := .s3, recorded := true }.place = o.sourceTrack n := by
    simp [Order.place, Order.sourceTrack, hk]
  simp only [mapWriteEnds_s2 d o _ hs, if_pos h0, Turn.upd, h.onStarted_recorded hstarted]
  rw [enterS3_of_only d { o with recorded := true } _ rfl h.drive hstarted]
  simp only [hplace]
  rfl

theorem WriteEnds.mapWriteEnds_s2_again (h : WriteEnds s d w r o) (hs : o.step = .s2) (h0 : o.retryCount ≠ 0) {n b : Nat}
    {g : Origin} (hk : o.kind = .spare n g) (hb : o.newAlt = some b) :
    mapWriteEnds d o true ⟨operationEnded d s, []⟩ =
      ⟨stepEntered d o .s4 (alternateTrack b) s.image.source s, [.imageCheck]⟩ := by
  have hstarted : o.step ≠ .notStarted := by simp [hs]
  have hplace : { o with step := .s4, recorded := true }.place = alternateTrack b := by
    simp [Order.place, hk, hb]
  simp only [mapWriteEnds_s2 d o _ hs, if_neg h0, Turn.upd, h.onStarted_recorded hstarted]
  rw [enterS4_of_only d { o with recorded := true } _ rfl h.drive hstarted]
  simp only [hplace]
  rfl

/-- What follows an ended order finds nothing to do in a unit that differs from the one before in no request and no debt. -/
theorem WriteEnds.close_of_ended (h : WriteEnds s d w r o) (u : State) (l : List Task)
    (hu : u = { s with
      drives := u.drives, works := u.works, slots := u.slots, orders := [], mapBuffer := u.mapBuffer, image := u.image
      history := u.history, out := u.out })
    (hrot : (u.drive d).rotationKnown = true) (hl : l.length ≤ 1000)
    (hx : ∀ x ∈ l, x = .freedPlace ∨ x = .imageFreed ∨ x = .offer d) : (Turn.mk u l).close = u := by
  refine close_of_quiet_unit u d l ?_ hl ?_ ?_ ?_ ?_ hrot hx
  · rw [hu]; exact h.followUps
  · rw [hu]; exact h.queue
  · rw [hu]
  · rw [hu]; exact h.awaiting
  · rw [hu]; exact h.owed

theorem WriteEnds.exec_running (h : WriteEnds s d w r o) (hs : o.step = .running)
    (hc : ∀ e ∈ (s.map d).table, e.state = .committed) (hrot : (s.drive d).rotationKnown = true) :
    exec (.mapWriteEnd d) s = .next (atRest d { writeEnded d r s with orders := [] }) := by
  rw [h.exec_eq (by simp [hs]), h.mapWriteEnds_running hs hc]
  refine congrArg _ (h.close_of_ended _ _ (by rw [writeEnded_eq]; rfl) ?_ (by simp) (by simp))
  rw [atRest_rotationKnown, ← hrot]
  exact writeEnded_rotationKnown d r s

theorem WriteEnds.exec_s2_first (h : WriteEnds s d w .done o) (hs : o.step = .s2) (h0 : o.retryCount = 0) {n : Nat}
    {g : Origin} (hk : o.kind = .spare n g) :
    exec (.mapWriteEnd d) s = .next (stepEntered d o .s3 (o.sourceTrack n) (some (o.sourceTrack n)) s) := by
  rw [h.exec_eq (by simp [hs])]
  refine congrArg _ ((congrArg Turn.close (h.mapWriteEnds_s2_first hs h0 hk)).trans ?_)
  exact Turn.close_nil _ h.followUps

theorem WriteEnds.exec_s2_again (h : WriteEnds s d w .done o) (hs : o.step = .s2) (h0 : o.retryCount ≠ 0) {n b : Nat}
    {g : Origin} (hk : o.kind = .spare n g) (hb : o.newAlt = some b) :
    exec (.mapWriteEnd d) s = .next (stepEntered d o .s4 (alternateTrack b) s.image.source s) := by
  rw [h.exec_eq (by simp [hs])]
  refine congrArg _ ((congrArg Turn.close (h.mapWriteEnds_s2_again hs h0 hk hb)).trans ?_)
  refine close_of_idle_tasks _ _ h.followUps (by simp) fun x hx rest => ?_
  obtain rfl := List.mem_singleton.1 hx
  exact congrArg (Turn.mk · rest) (imageDispatch_of_no_requests _ h.queue)

theorem WriteEnds.exec_s6 (h : WriteEnds s d w .done o) (hs : o.step = .s6) {n : Nat} (hn : o.track = some n)
    (hi : s.slot imageSlot = none) (hrot : (s.drive d).rotationKnown = true)
    (hraised : ∀ e ∈ s.history, e.drive = d → e.raised = some n → e.track = o.sourceTrack n) :
    exec (.mapWriteEnd d) s = .next (atRest d (orderGone d (o.sourceTrack n) (operationEnded d s))) := by
  rw [h.exec_eq (by simp [hs])]
  refine congrArg _ ((congrArg Turn.close (h.mapWriteEnds_s6 hs hn hi hraised)).trans ?_)
  refine h.close_of_ended _ _ rfl ?_ (by simp) (by simp)
  rw [atRest_rotationKnown]
  exact hrot

end

/-- Settles O51: the order's step says how its map write ends, and what is due then finds nothing to do. -/
theorem mapWriteOrderEnds : Obligations.MapWriteOrderEnds := by
  intro s d w result o hf _ hw hk hr howner hwait ho hd hreq ha hq howed ends
  have h : WriteEnds s d w result o := ⟨hf, hw, hk, hr, howner, hwait, ho, hd, hreq, ha, hq, howed⟩
  constructor
  · intro _ hs hc _ hrot
    refine ⟨_, h.exec_running hs hc hrot, ?_, orderEnded_parts s _ d result rfl ?_ rfl⟩ <;>
      · rw [writeEnded_eq]; rfl
  · rintro n g b hkind hb rfl
    exact ⟨fun hs h0 => h.exec_s2_first hs h0 hkind, fun hs h0 => h.exec_s2_again hs h0 hkind hb,
      fun hs hi hrot hraised => ⟨_, h.exec_s6 hs (by simp [Order.track, hkind]) hi hrot hraised, rfl,
        orderEnded_parts s _ d .done rfl rfl rfl⟩⟩

end Sys2Proof.Machine.MapOperations

/-! SUPPORT. Proofs about positioning: access estimates, the dispatch choice, reconnect windows, a request dispatched at
once. -/

namespace Sys2Proof.Machine.Positioning

/-! ## The seek estimate and the rotational wait (R49, R50) -/

@[simp] theorem seekEstimate_zero : seekEstimate 0 = 0 := rfl

theorem seekEstimate_near (d : Nat) (h0 : d ≠ 0) (h : d ≤ 31) : seekEstimate d = 40 + 2 * d := by
  simp [seekEstimate, h0, h]

theorem seekEstimate_far (d : Nat) (h : 32 ≤ d) : seekEstimate d = 94 + d / 3 := by
  have h0 : d ≠ 0 := by omega
  have hn : ¬ d ≤ 31 := by omega
  simp [seekEstimate, h0, hn]

theorem seekEstimate_mono (a b : Nat) (h : a ≤ b) : seekEstimate a ≤ seekEstimate b := by
  rcases Nat.eq_zero_or_pos a with ha | ha
  · rw [ha]
    exact Nat.zero_le _
  · by_cases hb : b ≤ 31
    · rw [seekEstimate_near a (by omega) (by omega), seekEstimate_near b (by omega) hb]
      omega
    · rw [seekEstimate_far b (by omega)]
      by_cases ha' : a ≤ 31
      · rw [seekEstimate_near a (by omega) ha']
        omega
      · rw [seekEstimate_far a (by omega)]
        omega

theorem seekEstimate_eq_zero_iff (d : Nat) : seekEstimate d = 0 ↔ d = 0 := by
  refine ⟨fun h => ?_, fun h => by rw [h]; rfl⟩
  rcases Nat.eq_zero_or_pos d with h0 | h0
  · exact h0
  · have h42 : 42 ≤ seekEstimate d := seekEstimate_mono 1 d h0
    omega

theorem seekEstimate_le (d : Nat) (h : d ≤ 655) : seekEstimate d ≤ 312 := seekEstimate_mono d 655 h

theorem seekEstimate_eq_max_iff (d : Nat) (h : d ≤ 655) : seekEstimate d = 312 ↔ 654 ≤ d := by
  by_cases hn : d ≤ 31
  · have h31 : seekEstimate d ≤ 102 := seekEstimate_mono d 31 hn
    omega
  · rw [seekEstimate_far d (by omega)]
    omega

theorem distance_eq_natAbs (a b : Nat) : distance a b = ((a : Int) - b).natAbs := by
  unfold distance
  split <;> omega

theorem distance_eq_zero_iff (a b : Nat) : distance a b = 0 ↔ a = b := by
  rw [distance_eq_natAbs]
  omega

theorem distance_le (a b : Nat) (ha : a ≤ 655) (hb : b ≤ 655) : distance a b ≤ 655 := by
  rw [distance_eq_natAbs]
  omega

theorem windowSector_lt (block lead : Nat) : windowSector block lead < 96 := Nat.mod_lt _ (by omega)

theorem windowSector_cast (block lead : Nat) (h : lead ≤ 96) :
    (windowSector block lead : Int) = (4 * (block : Int) - lead) % 96 := by
  unfold windowSector
  omega

theorem rotationalWait_cast (block lead angle seek : Nat) :
    (rotationalWait block lead angle seek : Int) = (4 * (block : Int) - lead - angle - seek) % 96 :=
  Int.toNat_of_nonneg (Int.emod_nonneg _ (by decide))

/-- The wait is from the arm's expected arrival to the window sector. -/
theorem rotationalWait_eq_to_sector (block lead angle seek : Nat) (h : lead ≤ 96) :
    (rotationalWait block lead angle seek : Int) = ((windowSector block lead : Int) - angle - seek) % 96 := by
  rw [rotationalWait_cast, windowSector_cast block lead h]
  omega

theorem rotationalWait_lt (block lead angle seek : Nat) : rotationalWait block lead angle seek < 96 := by
  have h := rotationalWait_cast block lead angle seek
  omega

/-- There is no wait just when the arm arrives at the window sector. -/
theorem rotationalWait_eq_zero_iff (block lead angle seek : Nat) (h : lead ≤ 96) :
    rotationalWait block lead angle seek = 0 ↔ (angle + seek) % 96 = windowSector block lead := by
  have hw := rotationalWait_eq_to_sector block lead angle seek h
  have hs := windowSector_lt block lead
  omega

/-- The wait is longest just when the arm arrives one sector late. -/
theorem rotationalWait_eq_max_iff (block lead angle seek : Nat) (h : lead ≤ 96) :
    rotationalWait block lead angle seek = 95 ↔ (angle + seek) % 96 = (windowSector block lead + 1) % 96 := by
  have hw := rotationalWait_eq_to_sector block lead angle seek h
  have hs := windowSector_lt block lead
  omega

/-- The access estimate is zero just for the cylinder of the arm and the sector under the head. -/
theorem accessEstimate_eq_zero_iff (target arm angle block lead : Nat) (ha : angle ≤ 95) (hl : lead ≤ 96) :
    accessEstimate target arm angle block lead = 0 ↔ target = arm ∧ angle = windowSector block lead := by
  have hangle : angle % 96 = angle := Nat.mod_eq_of_lt (by omega)
  unfold accessEstimate
  rw [Nat.add_eq_zero_iff, seekEstimate_eq_zero_iff, distance_eq_zero_iff]
  refine and_congr_right fun htarget => ?_
  rw [htarget, (distance_eq_zero_iff arm arm).2 rfl, seekEstimate_zero, rotationalWait_eq_zero_iff _ _ _ _ hl,
    Nat.add_zero, hangle]

/-- Settles O57: the stages of the access estimate, one by one. -/
theorem accessEstimateStages : Obligations.AccessEstimateStages := by
  refine ⟨seekEstimate_mono, fun d hd => ⟨?_, fun h0 h => ?_, fun h => ?_, seekEstimate_eq_max_iff d hd⟩,
    fun target arm angle block lead ht harm hangle _ _ hlead => ?_⟩
  · rintro rfl
    rfl
  · rw [seekEstimate_near d (by omega) h]
    omega
  · rw [seekEstimate_far d h]
    omega
  · intro seek sector wait
    have hl : lead ≤ 96 := by omega
    have hseek : seek ≤ 312 := seekEstimate_le _ (distance_le target arm ht harm)
    have hwait : wait < 96 := rotationalWait_lt _ _ _ _
    have hsum : accessEstimate target arm angle block lead = seek + wait := rfl
    have hmax : seek = 312 ↔ 654 ≤ distance target arm := seekEstimate_eq_max_iff _ (distance_le target arm ht harm)
    exact ⟨distance_eq_natAbs target arm, windowSector_cast block lead hl, rotationalWait_cast block lead angle seek,
      rotationalWait_eq_to_sector block lead angle seek hl, by omega, rotationalWait_eq_zero_iff _ _ _ _ hl,
      rotationalWait_eq_max_iff _ _ _ _ hl, hsum, by omega, accessEstimate_eq_zero_iff _ _ _ _ _ hangle hl, by omega⟩

/-! ## The dispatch choice (R52) -/

theorem leastEstimate_eq_none_iff (f : Entry → Nat) (l : List Entry) : leastEstimate f l = none ↔ l = [] := by
  cases l with
  | nil => simp [leastEstimate]
  | cons e l =>
    simp only [leastEstimate, reduceCtorEq, iff_false]
    split
    · simp
    · split <;> simp

/-- The entry chosen by estimate is below the older ones, and no younger one is below it. -/
theorem leastEstimate_split (f : Entry → Nat) : ∀ (l : List Entry) (e : Entry), leastEstimate f l = some e →
    ∃ older younger, l = older ++ e :: younger ∧ (∀ x ∈ older, f e < f x) ∧ ∀ x ∈ younger, f e ≤ f x
  | [], _, h => by simp [leastEstimate] at h
  | y :: l, e, h => by
    cases htail : leastEstimate f l with
    | none =>
      obtain rfl : y = e := by simpa [leastEstimate, htail] using h
      exact ⟨[], l, rfl, by simp, by simp [(leastEstimate_eq_none_iff f l).1 htail]⟩
    | some x =>
      obtain ⟨older, younger, hl, hold, hyoung⟩ := leastEstimate_split f l x htail
      by_cases hlt : f x < f y
      · obtain rfl : x = e := by simpa [leastEstimate, htail, hlt] using h
        exact ⟨y :: older, younger, by rw [hl]; rfl, by simpa [hlt] using hold, hyoung⟩
      · obtain rfl : y = e := by simpa [leastEstimate, htail, hlt] using h
        refine ⟨[], l, rfl, by simp, fun z hz => ?_⟩
        have hyx : f y ≤ f x := Nat.le_of_not_lt hlt
        rw [hl] at hz
        rcases List.mem_append.1 hz with ho | hr
        · exact Nat.le_trans hyx (Nat.le_of_lt (hold z ho))
        · rcases List.mem_cons.1 hr with rfl | hy
          · exact hyx
          · exact Nat.le_trans hyx (hyoung z hy)

/-- A change of the entries that keeps their estimates changes the chosen entry alone. -/
theorem leastEstimate_map (f g : Entry → Nat) (c : Entry → Entry) (h : ∀ e, f (c e) = g e) :
    ∀ l : List Entry, leastEstimate f (l.map c) = (leastEstimate g l).map c
  | [] => rfl
  | e :: l => by
    simp only [List.map_cons, leastEstimate, leastEstimate_map f g c h l]
    cases leastEstimate g l with
    | none => rfl
    | some x =>
      simp only [Option.map_some, h]
      split <;> rfl

theorem chosen_of_urgent (s : State) (d : DriveNo) (e : Entry)
    (h : (s.eligibleSet d).find? (fun e => e.bypass = 8) = some e) : s.chosen d = some e := by
  simp [State.chosen, h]

theorem chosen_of_not_urgent (s : State) (d : DriveNo) (h : ∀ x ∈ s.eligibleSet d, x.bypass ≠ 8) :
    s.chosen d = leastEstimate (s.estimate d) (s.eligibleSet d) := by
  have hu : (s.eligibleSet d).find? (fun e => e.bypass = 8) = none := List.find?_eq_none.2 (by simpa using h)
  simp [State.chosen, hu]

/-- Either the set holds an urgent request, and a first one, or it holds none. -/
theorem urgent_or_not (l : List Entry) :
    (∃ e, l.find? (fun e => e.bypass = 8) = some e) ∨ ∀ x ∈ l, x.bypass ≠ 8 := by
  cases h : l.find? (fun e => e.bypass = 8) with
  | none => exact .inr (by simpa using h)
  | some e => exact .inl ⟨e, rfl⟩

theorem eligibleSet_eq_nil_iff (s : State) (d : DriveNo) : s.eligibleSet d = [] ↔ s.chosen d = none := by
  rcases urgent_or_not (s.eligibleSet d) with ⟨e, he⟩ | hn
  · have hne : s.eligibleSet d ≠ [] := List.ne_nil_of_mem (List.mem_of_find?_eq_some he)
    simp [chosen_of_urgent s d e he, hne]
  · rw [chosen_of_not_urgent s d hn, leastEstimate_eq_none_iff]

theorem choose_of_not_chosen (s : State) (d : DriveNo) (hr : (s.drive d).rotationKnown = true)
    (h : s.chosen d = none) : s.choose d = s := by
  simp [State.choose, hr, h]

/-- Where the chosen request stands in the eligible set (R52). -/
theorem chosen_split (s : State) (d : DriveNo) (e : Entry) (h : s.chosen d = some e) :
    ∃ older younger, s.eligibleSet d = older ++ e :: younger ∧
      (((∃ x ∈ s.eligibleSet d, x.bypass = 8) ∧ e.bypass = 8 ∧ ∀ x ∈ older, x.bypass ≠ 8) ∨
        ((∀ x ∈ s.eligibleSet d, x.bypass ≠ 8) ∧ (∀ x ∈ older, s.estimate d e < s.estimate d x) ∧
          ∀ x ∈ younger, s.estimate d e ≤ s.estimate d x)) := by
  rcases urgent_or_not (s.eligibleSet d) with ⟨u, hu⟩ | hn
  · obtain rfl : u = e := by simpa [chosen_of_urgent s d u hu] using h
    obtain ⟨hurgent, older, younger, hl, hold⟩ := List.find?_eq_some_iff_append.1 hu
    have h8 : u.bypass = 8 := by simpa using hurgent
    exact ⟨older, younger, hl, .inl ⟨⟨u, List.mem_of_find?_eq_some hu, h8⟩, h8, by simpa using hold⟩⟩
  · rw [chosen_of_not_urgent s d hn] at h
    obtain ⟨older, younger, hl, hold, hyoung⟩ := leastEstimate_split _ _ _ h
    exact ⟨older, younger, hl, .inr ⟨hn, hold, hyoung⟩⟩

/-- The choice follows a change of the eligible requests that keeps their bypass counts and estimates. -/
theorem chosen_map (s t : State) (d : DriveNo) (c : Entry → Entry) (hset : t.eligibleSet d = (s.eligibleSet d).map c)
    (hbypass : ∀ e, (c e).bypass = e.bypass) (hestimate : ∀ e, t.estimate d (c e) = s.estimate d e) :
    t.chosen d = (s.chosen d).map c := by
  have hu : (t.eligibleSet d).find? (fun e => e.bypass = 8) =
      ((s.eligibleSet d).find? (fun e => e.bypass = 8)).map c := by
    rw [hset, List.find?_map]
    simp only [Function.comp_def, hbypass]
  rcases urgent_or_not (s.eligibleSet d) with ⟨u, hurgent⟩ | hn
  · rw [chosen_of_urgent s d u hurgent]
    exact chosen_of_urgent t d (c u) (by rw [hu, hurgent]; rfl)
  · have hn' : ∀ x ∈ t.eligibleSet d, x.bypass ≠ 8 := by
      rw [hset]
      simpa [hbypass] using hn
    rw [chosen_of_not_urgent s d hn, chosen_of_not_urgent t d hn', hset, leastEstimate_map _ _ c hestimate]

/-- A link state does not enter the choice. -/
theorem chosen_onPort_link (s : State) (d : DriveNo) (p : Port) (l : LinkState) :
    (s.onPort p fun u => { u with link := l }).chosen d = s.chosen d := by
  have hclass : ∀ q, ((s.onPort p fun u => { u with link := l }).port q).linkClass = (s.port q).linkClass := fun q => by
    rw [State.onPort_port]
    split
    case isTrue h => rw [h]
    case isFalse => rfl
  have h := chosen_map s (s.onPort p fun u => { u with link := l }) d id (List.map_id _).symm (fun _ => rfl)
    fun e => by simp only [State.estimate, id, hclass]; rfl
  simpa using h

/-- The entry with its request's mode flags changed. -/
def withFlags (f : ModeFlags → ModeFlags) (e : Entry) : Entry :=
  { e with request := { e.request with flags := f e.request.flags } }

/-- The unit with the mode flags of every request changed. -/
def allWithFlags (f : ModeFlags → ModeFlags) (s : State) : State := { s with queue := s.queue.map (withFlags f) }

theorem allWithFlags_oldest (f : ModeFlags → ModeFlags) (s : State) (p : Port) (d : DriveNo) :
    (allWithFlags f s).oldest p d = (s.oldest p d).map (withFlags f) := by
  simp only [State.oldest, allWithFlags, List.find?_map]
  rfl

theorem allWithFlags_eligible (f : ModeFlags → ModeFlags) (s : State) (d : DriveNo) (e : Entry) :
    (allWithFlags f s).eligible d (withFlags f e) = s.eligible d e := by
  have hport : (withFlags f e).port = e.port := rfl
  simp only [State.eligible, hport, allWithFlags_oldest, Option.any_map]
  rfl

theorem allWithFlags_eligibleSet (f : ModeFlags → ModeFlags) (s : State) (d : DriveNo) :
    (allWithFlags f s).eligibleSet d = (s.eligibleSet d).map (withFlags f) := by
  have hqueue : (allWithFlags f s).queue = s.queue.map (withFlags f) := rfl
  simp only [State.eligibleSet, hqueue, List.filter_map, Function.comp_def, allWithFlags_eligible]

/-- Settles O58: the choice is the first urgent request or the first of the least estimate, and neither looks at a link's
state or a mode flag. -/
theorem dispatchChoice : Obligations.DispatchChoice := fun s d =>
  ⟨eligibleSet_eq_nil_iff s d,
    fun h hr => choose_of_not_chosen s d hr ((eligibleSet_eq_nil_iff s d).1 h),
    chosen_split s d, chosen_onPort_link s d,
    fun f => chosen_map s (allWithFlags f s) d (withFlags f) (allWithFlags_eligibleSet f s d) (fun _ => rfl) fun _ => rfl⟩


/-! ## A reconnect window at a mark (R58, R114, R117) -/

theorem exec_sectorMark (d : DriveNo) (x : MarkInput) (s : State) :
    exec (.sectorMark d x) s = complete (sectorMarked d x) s := rfl

theorem exec_windowExpiry (d : DriveNo) (s : State) :
    exec (.windowExpiry d) s = complete (fun t => t.upd fun s => s.expireWindow d) s := rfl

/-- The unit with drive `d` one sector further (R1). -/
def turned (d : DriveNo) (s : State) : State := s.onDrive d fun r => { r with angle := (r.angle + 1) % 96 }

theorem turned_angle (d : DriveNo) (s : State) : ((turned d s).drive d).angle = ((s.drive d).angle + 1) % 96 := by
  simp [turned]

theorem turned_rotationKnown (d : DriveNo) (s : State) :
    ((turned d s).drive d).rotationKnown = (s.drive d).rotationKnown := by
  simp [turned]

/-- The unit with drive `d`'s window WAITING again, its drive out of the pending set, and one more revolution lost in the
package of its slot. -/
def windowMissed (d : DriveNo) (k : Package) (s : State) : State :=
  { s with
    windows := s.windows.set d { s.window d with state := .waiting }
    arbiter := { s.arbiter with pendingSet := s.arbiter.pendingSet.set (driveSlot d) false }
    slots := s.slots.set (driveSlot d) (some { k with revsLost := min (k.revsLost + 1) 255 }) }

theorem windowMissed_window (d : DriveNo) (k : Package) (s : State) :
    (windowMissed d k s).window d = { s.window d with state := .waiting } :=
  (MapOperations.windows_set_window s d d _).trans (if_pos rfl)

theorem expireWindow_of_not_pending (s : State) (d : DriveNo) (h : (s.window d).state ≠ .pending) :
    s.expireWindow d = s := by
  simp [State.expireWindow, h]

/-- A host context's PENDING window without hold expires: a miss. -/
theorem expireWindow_of_pending (s : State) (d : DriveNo) (k : Package) (hp : (s.window d).state = .pending)
    (hh : (s.window d).hold = false) (hw : s.work d = none) (hk : s.slot (driveSlot d) = some k) :
    s.expireWindow d = windowMissed d k s := by
  have hwork : ((s.onWindow d fun w => { w with state := .waiting }).setPending (driveSlot d) false).work d = none := hw
  have hslot : ((s.onWindow d fun w => { w with state := .waiting }).setPending (driveSlot d) false).slot (driveSlot d) =
      some k := hk
  simp only [State.expireWindow, hp, hh, hwork, State.onSlot, hslot]
  rfl

theorem openAtMark_of_reached (s : State) (d : DriveNo) (hw : (s.window d).state = .waiting)
    (hr : (s.drive d).rotationKnown = true) (ha : (s.drive d).angle = (s.window d).sector) :
    s.openAtMark d = s.openWindow d := by
  simp [State.openAtMark, hw, hr, ha]

theorem openAtMark_of_not_reached (s : State) (d : DriveNo) (hh : (s.window d).hold = false)
    (ha : (s.drive d).angle ≠ (s.window d).sector) : s.openAtMark d = s := by
  simp [State.openAtMark, hh, ha]

/-- What the expiry of a window can change: the window, the pending set, the slot's package. -/
theorem expireWindow_frame (s : State) (d : DriveNo) :
    s.expireWindow d = { s with
      windows := (s.expireWindow d).windows, arbiter := (s.expireWindow d).arbiter, slots := (s.expireWindow d).slots } := by
  simp only [State.expireWindow]
  split
  · split <;> rfl
  · rfl

/-- What the opening of a window can change: the window and the pending set. -/
theorem openAtMark_frame (s : State) (d : DriveNo) :
    s.openAtMark d = { s with windows := (s.openAtMark d).windows, arbiter := (s.openAtMark d).arbiter } := by
  simp only [State.openAtMark]
  split <;> rfl

theorem freePath_of_not_waiting (s : State) (d : DriveNo) (h : s.arbiter.freeAt ≠ some d) : s.freePath d = s := by
  simp [State.freePath, h]

/-- The Data Path takes no mark of a drive that is not connected. -/
theorem dataPathMark_of_not_connected (d : DriveNo) (x : MarkInput) (t : Turn)
    (h : ∀ a, t.st.active = some a → a.drive ≠ d) : dataPathMark d x t = t := by
  unfold dataPathMark
  split
  case h_1 a ha => rw [if_neg (h a ha)]
  case h_2 => rfl

/-- A sector mark of a drive away from the data path advances its angle; then its window expires or opens. -/
theorem exec_sectorMark_away (s : State) (d : DriveNo) (x : MarkInput) (hf : s.followUps = [])
    (hi : (s.drive d).installed = true) (haway : AwayFromPath s d) (hfree : s.arbiter.freeAt ≠ some d) :
    exec (.sectorMark d x) s = .next (((turned d (s.sending [])).expireWindow d).openAtMark d) := by
  have hactive : (((turned d (s.sending [])).expireWindow d).openAtMark d).active = s.active := by
    rw [openAtMark_frame, expireWindow_frame]; rfl
  have hdone : (((turned d (s.sending [])).expireWindow d).openAtMark d).followUps = [] := by
    rw [openAtMark_frame, expireWindow_frame]; exact hf
  have hmark : sectorMarked d x ⟨s.sending [], []⟩ =
      ⟨((turned d (s.sending [])).expireWindow d).openAtMark d, []⟩ := by
    unfold sectorMarked
    rw [if_pos (show ((s.sending []).drive d).installed = true from hi), takeDue_away d _ haway]
    have hpath : (turned d (s.sending [])).freePath d = turned d (s.sending []) := freePath_of_not_waiting _ d hfree
    simp only [afterMark, Turn.upd]
    rw [← turned, hpath]
    exact dataPathMark_of_not_connected d x _ fun a ha => haway.1 a (hactive.symm.trans ha)
  rw [exec_sectorMark, complete_of_settled _ s hf, hmark, Turn.close_nil _ hdone]

/-- Settles O40: after the mark the window's state and sector say whether it opens, expires, or stands. -/
theorem windowOpensAndExpires : Obligations.WindowOpensAndExpires := by
  intro s d x hf hi haway hfree hh marked expired
  have hmark := exec_sectorMark_away s d x hf hi haway hfree
  have hangle : (marked.drive d).angle = ((s.drive d).angle + 1) % 96 := turned_angle d (s.sending [])
  refine ⟨fun hw hr => ?_, fun k hp hw hk => ?_⟩
  · have hstays : marked.expireWindow d = marked :=
      expireWindow_of_not_pending marked d (by rw [show (marked.window d).state = _ from hw]; decide)
    refine ⟨fun hs => hmark.trans (congrArg _ ?_), fun hs => hmark.trans (congrArg _ ?_)⟩
    · calc (marked.expireWindow d).openAtMark d
          = marked.openAtMark d := by rw [hstays]
        _ = marked.openWindow d :=
            openAtMark_of_reached marked d hw ((turned_rotationKnown d (s.sending [])).trans hr) (hangle.trans hs)
        _ = _ := State.openWindow_eq marked d
    · calc (marked.expireWindow d).openAtMark d
          = marked.openAtMark d := by rw [hstays]
        _ = marked := openAtMark_of_not_reached marked d hh fun h => hs (hangle.symm.trans h)
  · refine ⟨?_, fun hs => hmark.trans (congrArg _ ?_)⟩
    · have hmiss : (s.sending []).expireWindow d = expired (s.sending []) k :=
        expireWindow_of_pending _ d k hp hh hw hk
      rw [exec_windowExpiry, complete_of_settled _ s hf]
      exact congrArg _ ((congrArg (fun u => (Turn.mk u []).close) hmiss).trans (Turn.close_nil _ hf))
    · have hmiss : marked.expireWindow d = windowMissed d k marked := expireWindow_of_pending marked d k hp hh hw hk
      have hwindow : (windowMissed d k marked).window d = { s.window d with state := .waiting } :=
        windowMissed_window d k marked
      calc (marked.expireWindow d).openAtMark d
          = (windowMissed d k marked).openAtMark d := by rw [hmiss]
        _ = windowMissed d k marked :=
            openAtMark_of_not_reached _ d (by rw [hwindow]; exact hh) (by rw [hwindow]; exact fun h => hs (hangle.symm.trans h))


/-! ## A drive sent to a track (R8) -/

/-- The unit with a missed block boundary at drive `d` counted in the package of its slot (R110). -/
def boundaryCounted (d : DriveNo) (s : State) : State :=
  if (s.drive d).boundaryMissed then
    (s.onSlot (driveSlot d) Package.loseRevolution).onDrive d fun r => { r with boundaryMissed := false }
  else s

theorem boundaryCounted_frame (d : DriveNo) (s : State) :
    boundaryCounted d s = { s with drives := (boundaryCounted d s).drives, slots := (boundaryCounted d s).slots } := by
  unfold boundaryCounted
  split <;> rfl

theorem boundaryCounted_drive (d k : DriveNo) (s : State) :
    (boundaryCounted d s).drive k = if d = k then { s.drive d with boundaryMissed := false } else s.drive k := by
  unfold boundaryCounted
  split
  case isTrue => exact State.onDrive_drive (s.onSlot (driveSlot d) Package.loseRevolution) d k _
  case isFalse hb =>
    split
    case isTrue hk =>
      subst hk
      simp only [Bool.not_eq_true] at hb
      rw [← hb]
    case isFalse => rfl

theorem boundaryCounted_slot_other (d : DriveNo) (s : State) (i : Fin 9) (h : i ≠ driveSlot d) :
    (boundaryCounted d s).slot i = s.slot i := by
  unfold boundaryCounted
  split
  · exact (State.setSlot_slot s (driveSlot d) i _).trans (if_neg h.symm)
  · rfl

/-- Of the package in the drive's slot, the count of revolutions lost alone can change. -/
theorem boundaryCounted_slot (d : DriveNo) (s : State) (k : Package) (h : s.slot (driveSlot d) = some k) :
    ∃ n, (boundaryCounted d s).slot (driveSlot d) = some { k with revsLost := n } := by
  unfold boundaryCounted
  split
  · refine ⟨saturate (k.revsLost + 1), (State.setSlot_slot_self s (driveSlot d) _).trans ?_⟩
    rw [h]
    rfl
  · exact ⟨k.revsLost, h⟩

/-- The drive's window is armed for the next block of the package in its slot (R57). -/
theorem armHost_of_package (s : State) (d : DriveNo) (k : Package) (h : s.slot (driveSlot d) = some k) :
    s.armHost d = (boundaryCounted d s).armWindow d k.nextBlock (s.leadOf k) k.flags.holdPath := by
  have hlead : (boundaryCounted d s).leadOf k = s.leadOf k := by
    rw [boundaryCounted_frame]; rfl
  rw [← hlead]
  simp only [State.armHost, h, boundaryCounted]

theorem headSelect_cylinder (s : State) (d : DriveNo) (h : Nat) :
    ((s.headSelect d h).drive d).cylinder = (s.drive d).cylinder := by
  rw [State.headSelect_eq, State.onDrive_drive_self]
  rfl

/-- The arm is elsewhere: HEAD SELECT and SEEK, and the drive is SEEKING. -/
theorem sendTo_of_away (s : State) (d : DriveNo) (t : Track) (h : t.cyl ≠ (s.drive d).cylinder) :
    s.sendTo d t = (MapOperations.sentTo d t s).onDrive d fun r => { r with state := .seeking } := by
  simp only [State.sendTo, headSelect_cylinder, if_neg h, MapOperations.headSelect_seek]

/-- The unit with HEAD SELECT sent to a drive that is ORIENTING. -/
def oriented (d : DriveNo) (head : Nat) (s : State) : State :=
  State.onDrive { s with out := s.out ++ [.bus d (.headSelect head)] } d fun r =>
    { r with head := head, state := .orienting }

/-- The arm stands on the cylinder: HEAD SELECT, and the drive is ORIENTING with its window armed. -/
theorem sendTo_of_there (s : State) (d : DriveNo) (t : Track) (k : Package) (h : t.cyl = (s.drive d).cylinder)
    (hk : s.slot (driveSlot d) = some k) :
    s.sendTo d t =
      (boundaryCounted d (oriented d t.head s)).armWindow d k.nextBlock (s.leadOf k) k.flags.holdPath := by
  have horient : (s.headSelect d t.head).onDrive d (fun r => { r with state := .orienting }) = oriented d t.head s := by
    simp [oriented, State.headSelect_eq, State.onDrive]
  simp only [State.sendTo, headSelect_cylinder, if_pos h, State.orient, horient]
  exact armHost_of_package _ d k hk

/-- What sending a drive to a track keeps, and what it says of the drive's record and slot: the selected head, and the
package but for its count of revolutions lost. -/
structure Sent (d : DriveNo) (track : Track) (k : Package) (s t : State) : Prop where
  frame : t = { s with
    drives := t.drives, windows := t.windows, slots := t.slots, arbiter := t.arbiter, out := t.out }
  slots : ∀ i, i ≠ driveSlot d → t.slot i = s.slot i
  drives : ∀ j, j ≠ d → t.drive j = s.drive j
  windows : ∀ j, j ≠ d → t.window j = s.window j
  package : ∃ n, t.slot (driveSlot d) = some { k with revsLost := n }
  dispatched : (t.drive d).dispatched = (s.drive d).dispatched
  head : (t.drive d).head = track.head
  recalCount : (t.drive d).recalCount = (s.drive d).recalCount
  mismatch : (t.drive d).mismatch = (s.drive d).mismatch

/-- A drive whose arm is elsewhere is SEEKING, its window as it was. -/
theorem sendTo_seeks (s : State) (d : DriveNo) (track : Track) (k : Package)
    (hk : s.slot (driveSlot d) = some k) (h : track.cyl ≠ (s.drive d).cylinder) :
    let t := s.sendTo d track
    Sent d track k s t ∧ (t.drive d).state = .seeking ∧ (t.drive d).target = some track.cyl ∧
      (t.drive d).timer = .ms120 ∧ t.windows = s.windows ∧ t.arbiter = s.arbiter ∧
      t.out = s.out ++ [.bus d (.headSelect track.head), .bus d (.seek track.cyl)] := by
  have hdrive : ∀ j, (s.sendTo d track).drive j =
      if d = j then { s.drive d with
        head := track.head, offset := .none, target := some track.cyl, timer := .ms120, state := .seeking }
      else s.drive j := fun j => by
    rw [sendTo_of_away s d track h, State.onDrive_drive]
    simp only [MapOperations.sentTo, State.onDrive_drive, if_true]
    split <;> rfl
  have hself := (hdrive d).trans (if_pos rfl)
  have hother : ∀ j, j ≠ d → (s.sendTo d track).drive j = s.drive j := fun j hj => (hdrive j).trans (if_neg hj.symm)
  rw [sendTo_of_away s d track h] at hself hother ⊢
  exact ⟨⟨rfl, fun _ _ => rfl, hother, fun _ _ => rfl, ⟨k.revsLost, hk⟩, by rw [hself], by rw [hself], by rw [hself],
    by rw [hself]⟩, by rw [hself], by rw [hself], by rw [hself], rfl, rfl, rfl⟩

/-- A drive whose arm stands on the cylinder is ORIENTING, its window armed for the package's next block. -/
theorem sendTo_orients (s : State) (d : DriveNo) (track : Track) (k : Package)
    (hk : s.slot (driveSlot d) = some k) (h : track.cyl = (s.drive d).cylinder) :
    let t := s.sendTo d track
    Sent d track k s t ∧ (t.drive d).state = .orienting ∧ (t.window d).block = k.nextBlock ∧
      (t.window d).sector = windowSector k.nextBlock (s.leadOf k) ∧ (t.window d).state ≠ .disarmed ∧
      t.out = s.out ++ [.bus d (.headSelect track.head)] := by
  let u := boundaryCounted d (oriented d track.head s)
  have hu : u = { s with
      drives := u.drives, slots := u.slots, out := s.out ++ [.bus d (.headSelect track.head)] } :=
    boundaryCounted_frame d (oriented d track.head s)
  have hdrive : ∀ j, u.drive j =
      if d = j then { s.drive d with head := track.head, state := .orienting, boundaryMissed := false }
      else s.drive j := fun j => by
    simp only [u, boundaryCounted_drive, oriented, State.onDrive_drive, if_true]
    split <;> rfl
  have hself := (hdrive d).trans (if_pos rfl)
  obtain ⟨n, hn⟩ : ∃ n, u.slot (driveSlot d) = some { k with revsLost := n } := boundaryCounted_slot d _ k hk
  rw [sendTo_of_there s d track k h hk]
  have hframe := MapOperations.armWindow_frame u d k.nextBlock (s.leadOf k) k.flags.holdPath
  have hwindow := fun j => MapOperations.armWindow_window u d j k.nextBlock (s.leadOf k) k.flags.holdPath
  have hd := (hwindow d).trans (if_pos rfl)
  generalize u.armWindow d k.nextBlock (s.leadOf k) k.flags.holdPath = t at hframe hwindow hd
  have hdrives : ∀ j, t.drive j = u.drive j := fun j => by rw [hframe]; rfl
  have hslots : ∀ i, t.slot i = u.slot i := fun i => by rw [hframe]; rfl
  refine ⟨⟨?_, fun i hi => ?_, fun j hj => ?_, fun j hj => ?_, ⟨n, (hslots _).trans hn⟩, ?_, ?_, ?_, ?_⟩,
    ?_, ?_, ?_, ?_, ?_⟩
  · rw [hframe, hu]
  · exact (hslots i).trans (boundaryCounted_slot_other d _ i hi)
  · exact (hdrives j).trans ((hdrive j).trans (if_neg hj.symm))
  · refine (hwindow j).trans ((if_neg hj.symm).trans ?_)
    rw [hu]; rfl
  · rw [hdrives, hself]
  · rw [hdrives, hself]
  · rw [hdrives, hself]
  · rw [hdrives, hself]
  · rw [hdrives, hself]
  · rw [hd]
  · rw [hd]
  · rw [hd]
    split <;> simp
  · rw [hframe, hu]

/-! ## A read accepted for an IDLE drive (R70, R52, R54) -/

theorem exec_readBlocks (p : Port) (m : DriveRequest) (lingers : Bool) (s : State) :
    exec (.readBlocks p m lingers) s = complete (present p ⟨.drive .readBlocks m, lingers⟩) s := rfl

/-- A drive request that no check refuses finds its drive unreserved or held by its own port (R68). -/
theorem holder_of_admitted (s : State) (p : Port) (m : DriveRequest)
    (h : s.refusal p (.drive .readBlocks m) = none) :
    (s.drive m.drive).holder = none ∨ (s.drive m.drive).holder = some p := by
  have hr : s.reservedElsewhere p m.drive = none := by
    simp only [State.refusal] at h
    split at h
    · simp at h
    · exact (Option.or_eq_none_iff.1 (Option.or_eq_none_iff.1 h).1).2
  by_cases hn : (s.drive m.drive).holder = none
  · exact .inl hn
  · exact .inr (by simpa [State.reservedElsewhere, hn] using hr)

/-- Without orders, and with an empty Spare Table, no track is held (R27). -/
theorem trackHeld_of_nothing (s : State) (d : DriveNo) (n : Nat) (ho : s.orders = []) (ht : (s.map d).table = []) :
    s.trackHeld d n = false := by
  simp [State.trackHeld, ho, ht]

/-- Without orders, and with an empty Spare Table, a track is its own (R25). -/
theorem translate_of_nothing (s : State) (d : DriveNo) (t : Track) (ho : s.orders = []) (ht : (s.map d).table = []) :
    s.translate d t = .direct t := by
  simp [State.translate, tableEntry, ho, ht]

theorem countBypass_nil (s : State) : s.countBypass [] = s := by
  simp [State.countBypass]

/-- The entry of an accepted read (R70, R76). -/
def readEntry (p : Port) (m : DriveRequest) : Entry := ⟨p, .readBlocks, m, 0, .queued, none, none, none⟩

/-- The package of a dispatched read whose first track is its own (R101). -/
def readPackage (p : Port) (m : DriveRequest) : Package := newPackage (readEntry p m) (some (firstTrack m)) false

/-- The unit that has accepted and answered its only request. -/
def readAccepted (p : Port) (m : DriveRequest) (s : State) : State :=
  State.onPort { s with queue := [readEntry p m], out := [.message p (.answer 1 m.tag .accepted)] } p PortUnit.countIn

/-- The unit with that request in its drive's slot, the drive not yet sent to its track. -/
def readPlaced (p : Port) (m : DriveRequest) (s : State) : State :=
  State.onDrive
    (State.setSlot
      { readAccepted p m s with
        queue := [{ readEntry p m with status := .dispatched, slot := some (driveSlot m.drive) }] }
      (driveSlot m.drive) (some (readPackage p m)))
    m.drive fun r => { r with dispatched := some ⟨p, m.tag⟩, recalCount := 0, mismatch := none, deferred := false }

/-- The hypotheses of O18: a read is presented on a free link to a unit without requests and orders, for an IDLE drive
with an empty Spare Table, and no check refuses it. -/
structure ReadForIdleDrive (s : State) (p : Port) (m : DriveRequest) : Prop where
  followUps : s.followUps = []
  link : LinkFree s p
  queue : s.queue = []
  orders : s.orders = []
  results : s.results = []
  notRefused : s.refusal p (.drive .readBlocks m) = none
  inRange : outOfRange .readBlocks m = false
  idle : (s.drive m.drive).state = .idle
  free : (s.drive m.drive).dispatched = none
  rotation : (s.drive m.drive).rotationKnown = true
  table : (s.map m.drive).table = []

section
variable {s : State} {p : Port} {m : DriveRequest}

theorem ReadForIdleDrive.newEntry_eq (h : ReadForIdleDrive s p m) : s.newEntry p .readBlocks m = readEntry p m := by
  have hmark : s.acceptMark .readBlocks m = none := by simp [State.acceptMark, h.inRange, h.idle]
  have hheld : s.touchesHeld (readEntry p m) = false := by
    simp only [State.touchesHeld, List.any_eq_false, Bool.not_eq_true]
    exact fun t _ => trackHeld_of_nothing s m.drive _ h.orders h.table
  simp only [State.newEntry, hmark]
  rw [← readEntry, hheld]
  rfl

/-- The read is accepted: its entry in the queue, its Answer given, and what follows is due. -/
theorem ReadForIdleDrive.present_eq (h : ReadForIdleDrive s p m) :
    present p ⟨.drive .readBlocks m, false⟩ ⟨s.sending [], []⟩ =
      ⟨readAccepted p m s, [.passThrough p m.drive, .offer m.drive, .imageCheck]⟩ := by
  let queued : State := { s.sending [] with queue := s.queue ++ [readEntry p m] }
  let counted : State := queued.onPort p PortUnit.countIn
  have hfree : LinkFree counted p := by
    obtain ⟨hl, hw, ha, hr⟩ := h.link
    have hp : counted.port p = (s.port p).countIn := State.onPort_port_self queued p PortUnit.countIn
    exact ⟨by rw [hp]; exact hl, by rw [hp]; exact hw, ha, by rw [hp]; exact hr⟩
  have hentry : ((s.sending []).onPort p fun u => { u with link := .exchange, reply := none }).newEntry p .readBlocks m =
      readEntry p m := h.newEntry_eq
  have hcounted : (queued.onPort p fun u => { u with link := .exchange, reply := none }).onPort p PortUnit.countIn =
      counted.onPort p fun u => { u with link := .exchange, reply := none } := by
    rw [State.onPort_onPort, State.onPort_onPort]; rfl
  have haccepted : counted.replying p (.answer 1 m.tag .accepted) false = readAccepted p m s := by
    simp only [State.replying, counted, queued, h.queue]; rfl
  rw [present_free _ _ _ h.link, takeExchange_admitted _ _ _ h.notRefused]
  simp only [admitted, acceptRequest, Turn.upd, hentry]
  refine congrArg (Turn.mk · _) ?_
  rw [← haccepted, ← afterExchange_reply counted p _ false hfree, ← hcounted]
  rfl

/-- The read's entry is its drive's one eligible request (R45). -/
theorem ReadForIdleDrive.eligibleSet_eq (h : ReadForIdleDrive s p m) :
    (readAccepted p m s).eligibleSet m.drive = [readEntry p m] := by
  have hold : (readAccepted p m s).oldest p m.drive = some (readEntry p m) := by
    simp [State.oldest, readAccepted, readEntry]
  have hholder : ((readAccepted p m s).drive m.drive).holder = none ∨
      ((readAccepted p m s).drive m.drive).holder = some p := holder_of_admitted s p m h.notRefused
  have heligible : (readAccepted p m s).eligible m.drive (readEntry p m) = true := by
    rcases hholder with hn | hp
    · simp [State.eligible, readEntry, hold, hn]
    · simp [State.eligible, readEntry, hold, hp]
  exact List.filter_cons_of_pos heligible

theorem ReadForIdleDrive.chosen_eq (h : ReadForIdleDrive s p m) :
    (readAccepted p m s).chosen m.drive = some (readEntry p m) := by
  rw [chosen_of_not_urgent _ _ (by rw [h.eligibleSet_eq]; simp [readEntry]), h.eligibleSet_eq]
  rfl

/-- The chosen read is dispatched, and no request is passed over. -/
theorem ReadForIdleDrive.choose_eq (h : ReadForIdleDrive s p m) :
    (readAccepted p m s).choose m.drive = (readPlaced p m s).sendTo m.drive (firstTrack m) := by
  have haim : (readAccepted p m s).aim (readEntry p m) = (firstTrack m, false) := by
    have ht := translate_of_nothing (readAccepted p m s) m.drive (firstTrack m) h.orders h.table
    simp only [State.aim, readEntry, ht, Translation.target]
  have hplaced : ((readAccepted p m s).dispatchTo (readEntry p m) (driveSlot m.drive) (readPackage p m)).onDrive m.drive
      (fun r => { r with dispatched := some (readEntry p m).ref, recalCount := 0, mismatch := none, deferred := false }) =
      readPlaced p m s := by
    have hqueue : [readEntry p m].map (fun e => if e.ref = (readEntry p m).ref then
          { e with status := .dispatched, slot := some (driveSlot m.drive) } else e) =
        [{ readEntry p m with status := .dispatched, slot := some (driveSlot m.drive) }] := by simp
    simp only [State.dispatchTo, State.onEntry, readPlaced, ← hqueue]
    rfl
  have hrot : ((readAccepted p m s).drive m.drive).rotationKnown = true := h.rotation
  simp only [State.choose, hrot, if_true, h.chosen_eq, State.dispatchEntry, haim, h.eligibleSet_eq]
  have hpassed : List.filter (fun r => r ≠ (readEntry p m).ref) (List.map Entry.ref [readEntry p m]) = [] := by simp
  rw [hpassed, countBypass_nil]
  exact congrArg (State.sendTo · m.drive (firstTrack m)) hplaced

/-- The look of the pass-through rule finds an entry that waits for the disk (R79). -/
theorem ReadForIdleDrive.passThrough_eq (h : ReadForIdleDrive s p m) (l : List Task) :
    passThrough p m.drive ⟨readAccepted p m s, l⟩ = ⟨readAccepted p m s, l⟩ := by
  refine passThrough_waits p m.drive _ fun e he => ?_
  have he' : e = readEntry p m := by simpa [readAccepted] using (State.oldest_mem _ p m.drive e he).1
  have hresults : (readAccepted p m s).results = [] := h.results
  simp [he', State.passRecord, readEntry, hresults]

/-- The offer at the IDLE drive makes the dispatch choice (R41). -/
theorem ReadForIdleDrive.offer_eq (h : ReadForIdleDrive s p m) (l : List Task) :
    offer m.drive ⟨readAccepted p m s, l⟩ = ⟨(readPlaced p m s).sendTo m.drive (firstTrack m), l⟩ := by
  have havailable : (readAccepted p m s).available m.drive = true := by
    have hreset : (readAccepted p m s).stringReset = none :=
      State.not_resetting_of_admitted s p _ h.notRefused (by simp)
    have hidle : ((readAccepted p m s).drive m.drive).state = .idle := h.idle
    have hfree : ((readAccepted p m s).drive m.drive).dispatched = none := h.free
    simp [State.available, State.resetting, hreset, hidle, hfree]
  have horder : (readAccepted p m s).oldestOrder m.drive = none := by
    have horders : (readAccepted p m s).orders = [] := h.orders
    simp [State.oldestOrder, horders]
  simp only [offer, havailable, if_true, horder, Turn.upd, h.choose_eq]

theorem readPlaced_slot (s : State) (p : Port) (m : DriveRequest) :
    (readPlaced p m s).slot (driveSlot m.drive) = some (readPackage p m) :=
  State.setSlot_slot_self _ (driveSlot m.drive) _

theorem readPlaced_slot_other (s : State) (p : Port) (m : DriveRequest) (i : Fin 9) (h : i ≠ driveSlot m.drive) :
    (readPlaced p m s).slot i = s.slot i :=
  (State.setSlot_slot _ (driveSlot m.drive) i _).trans (if_neg h.symm)

theorem readPlaced_drive (s : State) (p : Port) (m : DriveRequest) :
    (readPlaced p m s).drive m.drive =
      { s.drive m.drive with dispatched := some ⟨p, m.tag⟩, recalCount := 0, mismatch := none, deferred := false } :=
  State.onDrive_drive_self _ m.drive _

theorem readPlaced_drive_other (s : State) (p : Port) (m : DriveRequest) (j : DriveNo) (h : j ≠ m.drive) :
    (readPlaced p m s).drive j = s.drive j :=
  (State.onDrive_drive _ m.drive j _).trans (if_neg h.symm)

theorem readPlaced_cylinder (s : State) (p : Port) (m : DriveRequest) :
    ((readPlaced p m s).drive m.drive).cylinder = (s.drive m.drive).cylinder := by
  rw [readPlaced_drive]

theorem readPlaced_port (s : State) (p q : Port) (m : DriveRequest) :
    (readPlaced p m s).port q = if p = q then (s.port p).countIn else s.port q :=
  State.onPort_port _ p q PortUnit.countIn

/-- Whether it seeks or not, the drive is sent to the read's track. -/
theorem readPlaced_sent (s : State) (p : Port) (m : DriveRequest) :
    Sent m.drive (firstTrack m) (readPackage p m) (readPlaced p m s)
      ((readPlaced p m s).sendTo m.drive (firstTrack m)) := by
  by_cases hc : (firstTrack m).cyl = ((readPlaced p m s).drive m.drive).cylinder
  · exact (sendTo_orients _ _ _ _ (readPlaced_slot s p m) hc).1
  · exact (sendTo_seeks _ _ _ _ (readPlaced_slot s p m) hc).1

/-- The read is accepted and dispatched in one step: look, offer and image service check leave nothing due. -/
theorem ReadForIdleDrive.exec_eq (h : ReadForIdleDrive s p m) :
    exec (.readBlocks p m false) s = .next ((readPlaced p m s).sendTo m.drive (firstTrack m)) := by
  have hframe := (readPlaced_sent s p m).frame
  have hsettled : settle 1000 ⟨readAccepted p m s, [.passThrough p m.drive, .offer m.drive, .imageCheck]⟩ =
      ⟨(readPlaced p m s).sendTo m.drive (firstTrack m), []⟩ := by
    have himage : ((readPlaced p m s).sendTo m.drive (firstTrack m)).imageDispatch =
        (readPlaced p m s).sendTo m.drive (firstTrack m) := by
      refine imageDispatch_none _ (State.imageOrder_none _ ?_)
      have horders : ((readPlaced p m s).sendTo m.drive (firstTrack m)).orders = [] := by rw [hframe]; exact h.orders
      simp [NoImageOrder, horders]
    rw [settle_cons 999, runTask, h.passThrough_eq, settle_cons 998, runTask, h.offer_eq, settle_cons 997, runTask,
      Turn.upd, himage, settle_nil]
  have hdone : ((readPlaced p m s).sendTo m.drive (firstTrack m)).followUps = [] := by rw [hframe]; exact h.followUps
  rw [exec_readBlocks, complete_of_settled _ s h.followUps, h.present_eq]
  simp only [Turn.close, hsettled]
  exact congrArg Host.Outcome.next (Turn.close_nil _ hdone)

end

/-- Settles O18: the accepted read is its drive's one eligible request, so it is dispatched; the drive seeks, or is
ORIENTING where the arm stands. -/
theorem requestForIdleDriveDispatched : Obligations.RequestForIdleDriveDispatched := by
  intro s p m hf hlink hq ho hresults hadmitted hrange hidle hfree hrot htable
  have h : ReadForIdleDrive s p m :=
    ⟨hf, hlink, hq, ho, hresults, hadmitted, hrange, hidle, hfree, hrot, htable⟩
  have hslot := readPlaced_slot s p m
  have hcylinder := readPlaced_cylinder s p m
  have hrecord := readPlaced_drive s p m
  have hseek := sendTo_seeks (readPlaced p m s) m.drive (firstTrack m) (readPackage p m) hslot
  have horient := sendTo_orients (readPlaced p m s) m.drive (firstTrack m) (readPackage p m) hslot
  obtain ⟨hframe, hslots, hdrives, hwindows, ⟨n, hpackage⟩, hdispatched, hhead, hrecal, hmismatch⟩ :=
    readPlaced_sent s p m
  refine ⟨_, h.exec_eq, ?_⟩
  generalize (readPlaced p m s).sendTo m.drive (firstTrack m) = t at *
  refine ⟨?_, fun q => ?_, fun i hi => (hslots i hi).trans (readPlaced_slot_other s p m i hi),
    fun j hj => ⟨(hdrives j hj).trans (readPlaced_drive_other s p m j hj), hwindows j hj⟩, ?_,
    ⟨_, hpackage, rfl, rfl, rfl, rfl, rfl, rfl, rfl, rfl, rfl⟩, ?_, hhead, ?_, ?_, fun hc => ?_, fun hc => ?_⟩
  · rw [hframe]; rfl
  · have hport : t.port q = (readPlaced p m s).port q := by rw [hframe]; rfl
    rw [hport, readPlaced_port]
    simp only [eq_comm (a := q)]
    rfl
  · rw [hframe]; rfl
  · rw [hdispatched, hrecord]
  · rw [hrecal, hrecord]
  · rw [hmismatch, hrecord]
  · obtain ⟨-, hstate, htarget, htimer, hwindow, harbiter, hout⟩ := hseek (by rw [hcylinder]; exact hc)
    exact ⟨hstate, htarget, htimer, hwindow, harbiter, hout⟩
  · obtain ⟨-, hstate, hblock, hsector, harmed, hout⟩ := horient (by rw [hcylinder]; exact hc)
    refine ⟨hstate, hblock, hsector.trans ?_, harmed, hout⟩
    show (4 * m.firstBlock + 96 - 2) % 96 = (4 * m.firstBlock + 94) % 96
    omega

end Sys2Proof.Machine.Positioning

/-! SUPPORT. Proofs about reservations and shared drives: RESERVE DRIVE granted, what a grant withdraws, RELEASE DRIVE. -/

namespace Sys2Proof.Machine.Reservations

open MapOperations (settle_of_idle_tasks addAttention_port imageDispatch_of_no_requests)

/-! ## The commands' arms -/

theorem exec_reserveDrive (p : Port) (tag : Nat) (d : DriveNo) (lingers : Bool) (s : State) :
    exec (.reserveDrive p tag d lingers) s = complete (present p ⟨.reserve tag d, lingers⟩) s := rfl

theorem exec_releaseDrive (p : Port) (tag : Nat) (d : DriveNo) (lingers : Bool) (s : State) :
    exec (.releaseDrive p tag d lingers) s = complete (present p ⟨.release tag d, lingers⟩) s := rfl

/-! ## Admission (R68) -/

/-- No check refuses RESERVE DRIVE for an installed drive that no other port holds. -/
theorem refusal_reserve_of_unheld (s : State) (p : Port) (tag : Nat) (d : DriveNo) (hr : s.stringReset = none)
    (hi : (s.drive d).installed = true) (hh : (s.drive d).holder = none ∨ (s.drive d).holder = some p) :
    s.refusal p (.reserve tag d) = none := by
  have hres : s.reservedElsewhere p d = none := by
    rcases hh with hh | hh <;> simp [State.reservedElsewhere, hh]
  simp [State.refusal, State.resetting, State.noDrive, hr, hi, hres]

/-- No check refuses RELEASE DRIVE for an installed drive: the reservation is not looked at. -/
theorem refusal_release_of_installed (s : State) (p : Port) (tag : Nat) (d : DriveNo) (hr : s.stringReset = none)
    (hi : (s.drive d).installed = true) : s.refusal p (.release tag d) = none := by
  simp [State.refusal, State.resetting, State.noDrive, hr, hi]

/-- A Request that no check refuses, presented on a free link of a unit with nothing left over: its effect, then its
reply, then the follow-ups. -/
theorem complete_present_admitted (s : State) (p : Port) (x : HostExchange) (lingers : Bool) (hf : s.followUps = [])
    (hl : LinkFree s p) (hx : s.refusal p x = none) :
    complete (present p ⟨x, lingers⟩) s = .next
      ((admitted p x ⟨(s.sending []).onPort p fun u => { u with link := .exchange, reply := none }, []⟩).upd fun s =>
        s.afterExchange p lingers).close := by
  rw [complete_of_settled _ _ hf, present_free p ⟨x, lingers⟩ ⟨s.sending [], []⟩ hl,
    takeExchange_admitted p ⟨x, lingers⟩ ⟨s.sending [], []⟩ hx]
  rfl

/-! ## What a grant withdraws (R88) -/

/-- A grant leaves the entries of its own port, those that are marked and those that are dispatched. -/
theorem withdraws_eq_false (s : State) (p : Port) (d : DriveNo) (e : Entry)
    (h : e.request.drive = d → e.port = p ∨ e.mark ≠ none ∨ e.status = .dispatched) : s.withdraws p d e = false := by
  by_cases hd : e.request.drive = d
  · rcases h hd with hp | hm | hs
    · simp [State.withdraws, hp]
    · simp [State.withdraws, hm]
    · simp [State.withdraws, hs]
  · simp [State.withdraws, hd]

/-- A grant with no entry of another port to withdraw changes nothing but the holder. -/
theorem withdraw_of_none (p : Port) (d : DriveNo) (t : Turn) (h : ∀ e ∈ t.st.queue, t.st.withdraws p d e = false) :
    withdraw p d t = t := by
  have hlost : t.st.queue.filter (t.st.withdraws p d) = [] := List.filter_eq_nil_iff.2 fun e he => by simp [h e he]
  have hqueue : (t.st.queue.map fun e =>
      if t.st.withdraws p d e then { e with mark := some .withdrawn, status := .queued } else e) = t.st.queue :=
    (List.map_congr_left fun e he => by simp [h e he]).trans (List.map_id' _)
  have hports : (allPorts.filter fun _ => false) = [] := rfl
  simp only [withdraw, hlost, hqueue, Turn.upd, Turn.whenDo, Turn.each, List.filter_nil, List.any_nil, List.foldl_nil,
    Bool.false_eq_true, if_false, hports]

/-! ## RESERVE DRIVE granted (R87) -/

/-- The unit with port `p` as the holder of drive `d`, nothing sent out yet. -/
def granted (p : Port) (d : DriveNo) (s : State) : State :=
  (s.sending []).onDrive d fun r => { r with holder := some p }

theorem granted_drive (p : Port) (d k : DriveNo) (s : State) :
    (granted p d s).drive k = if k = d then { s.drive d with holder := some p } else s.drive k := by
  rw [granted, State.onDrive_drive]
  simp only [eq_comm (a := d)]
  rfl

/-- The grant's effect on an exchange that the link has just taken: the holder and the reply, and then the withdrawal. -/
theorem admitted_reserve (s : State) (p : Port) (tag : Nat) (d : DriveNo) (l : List Task) :
    admitted p (.reserve tag d) ⟨(s.sending []).onPort p fun u => { u with link := .exchange, reply := none }, l⟩ =
      withdraw p d ⟨((granted p d s).onPort p fun u => { u with link := .exchange, reply := none }).reply p
        (.answer 9 tag .granted), l⟩ := rfl

/-- Settles O22: no entry is withdrawn, so the grant leaves the holder and the reply, and nothing is due. -/
theorem reserveDriveGranted : Obligations.ReserveDriveGranted := by
  intro s p tag d lingers hf hl hr hi hh hq
  have hlinked : LinkFree (granted p d s) p := hl
  rw [exec_reserveDrive,
    complete_present_admitted s p _ lingers hf hl (refusal_reserve_of_unheld s p tag d hr hi hh), admitted_reserve,
    withdraw_of_none _ _ _ fun e he => withdraws_eq_false _ p d e (hq e he)]
  simp only [Turn.upd, afterExchange_reply (granted p d s) p _ lingers hlinked]
  refine congrArg Host.Outcome.next (Turn.close_nil _ ?_)
  cases lingers <;> exact hf

/-! ## RELEASE DRIVE (R94, R95) -/

/-- Two changes of Port Units can be made in either order, unless they are of the same unit and say otherwise. -/
theorem onPort_comm (s : State) (p q : Port) (f g : PortUnit → PortUnit) (h : ∀ u, f (g u) = g (f u)) :
    (s.onPort p f).onPort q g = (s.onPort q g).onPort p f := by
  by_cases hpq : p = q
  · subst hpq
    simp only [State.onPort_onPort, h]
  · have hi : (portIndex p).val ≠ (portIndex q).val := fun e => hpq (portIndex_injective p q (Fin.ext e))
    simp [State.onPort, Vector.getElem_set_ne, hi, hi.symm, Vector.set_comm _ _ hi]

/-- The state of a link does not bear on the Attention Sets. -/
theorem addAttention_onPort (s : State) (d : DriveNo) (p : Port) (l : LinkState) (m : Option Message) :
    (s.onPort p fun u => { u with link := l, reply := m }).addAttention d =
      (s.addAttention d).onPort p fun u => { u with link := l, reply := m } := by
  have hcomm : ∀ (s : State) (q : Port),
      (s.onPort p fun u => { u with link := l, reply := m }).onPort q
          (fun u => PortUnit.refreshPending { u with attention := u.attention.set d true }) =
        (s.onPort q fun u => PortUnit.refreshPending { u with attention := u.attention.set d true }).onPort p
          fun u => { u with link := l, reply := m } := fun s q => onPort_comm s p q _ _ fun _ => rfl
  simp only [State.addAttention, allPorts, List.foldl_cons, List.foldl_nil, hcomm]

/-- The unit with the reservation of drive `d` ended and its attention raised at every port, nothing sent out yet. -/
def released (d : DriveNo) (s : State) : State :=
  ((s.sending []).onDrive d fun r => { r with holder := none }).addAttention d

theorem released_eq (d : DriveNo) (s : State) :
    released d s = { s with drives := (released d s).drives, ports := (released d s).ports, out := [] } := rfl

theorem released_drive (d k : DriveNo) (s : State) :
    (released d s).drive k = if k = d then { s.drive d with holder := none } else s.drive k := by
  have hd : (released d s).drive k = ((s.sending []).onDrive d fun r => { r with holder := none }).drive k := rfl
  rw [hd, State.onDrive_drive]
  simp only [eq_comm (a := d)]
  rfl

theorem released_port (d : DriveNo) (r : Port) (s : State) :
    (released d s).port r = { s.port r with attention := (s.port r).attention.set d true, statusPending := true } :=
  addAttention_port ((s.sending []).onDrive d fun r => { r with holder := none }) d r

/-- The attention that a release raises leaves the link of its port free. -/
theorem released_linkFree (d : DriveNo) (p : Port) (s : State) (h : LinkFree s p) : LinkFree (released d s) p := by
  obtain ⟨hlink, hwaiting, hawaits, hreply⟩ := h
  exact ⟨by rw [released_port]; exact hlink, by rw [released_port]; exact hwaiting, hawaits,
    by rw [released_port]; exact hreply⟩

theorem admitted_release_of_other (s : State) (p : Port) (tag : Nat) (d : DriveNo) (l : List Task)
    (hh : (s.drive d).holder ≠ some p) :
    admitted p (.release tag d) ⟨(s.sending []).onPort p fun u => { u with link := .exchange, reply := none }, l⟩ =
      ⟨((s.sending []).onPort p fun u => { u with link := .exchange, reply := none }).reply p
        (.answer 10 tag .notHolder), l⟩ := by
  simp [admitted, Turn.upd, State.releaseDrive, hh, State.answer, HostExchange.kindCode, HostExchange.tag]

theorem admitted_release_of_holder (s : State) (p : Port) (tag : Nat) (d : DriveNo) (l : List Task)
    (hh : (s.drive d).holder = some p) :
    admitted p (.release tag d) ⟨(s.sending []).onPort p fun u => { u with link := .exchange, reply := none }, l⟩ =
      ⟨((released d s).onPort p fun u => { u with link := .exchange, reply := none }).reply p
        (.answer 10 tag .released), l⟩ := by
  rw [released, ← addAttention_onPort]
  simp only [admitted, Turn.upd, State.releaseDrive, State.onPort_drive', State.sending_drive', hh, if_true]
  rfl

/-- How a reply stands at the ports: it lingers on its own link, or every port is as it was. -/
theorem replying_port (s : State) (p r : Port) (m : Message) (lingers : Bool) :
    (s.replying p m lingers).port r =
      { s.port r with
        link := if r = p ∧ lingers = true then .exchange else (s.port r).link
        reply := if r = p ∧ lingers = true then some m else (s.port r).reply } := by
  cases lingers
  · simp [State.replying]
  · by_cases h : p = r
    · subst h; simp [State.replying]
    · simp [State.replying, State.onPort_port, h, Ne.symm h]

theorem replying_eq (s : State) (p : Port) (m : Message) (lingers : Bool) :
    s.replying p m lingers =
      { s with
        ports := (s.replying p m lingers).ports, out := if lingers then s.out else s.out ++ [.message p m] } := by
  cases lingers <;> rfl

/-- Settles O24: with another holder, or none, the reply is all; the holder's release is `released` with its reply. -/
theorem releaseDriveAnswered : Obligations.ReleaseDriveAnswered := by
  intro s p tag d lingers hf hl hr hi
  have hexec := complete_present_admitted s p _ lingers hf hl (refusal_release_of_installed s p tag d hr hi)
  have hlinked := released_linkFree d p s hl
  constructor
  · intro hh
    rw [exec_releaseDrive, hexec, admitted_release_of_other s p tag d _ hh]
    simp only [Turn.upd, afterExchange_reply (s.sending []) p _ lingers hl]
    exact congrArg Host.Outcome.next (Turn.close_nil _ (by rw [replying_eq]; exact hf))
  · intro hh
    refine ⟨(released d s).replying p (.answer 10 tag .released) lingers, ?_, ?_, ?_, fun k => ?_, fun r => ?_⟩
    · rw [exec_releaseDrive, hexec, admitted_release_of_holder s p tag d _ hh]
      simp only [Turn.upd, afterExchange_reply (released d s) p _ lingers hlinked]
      exact congrArg Host.Outcome.next (Turn.close_nil _ (by rw [replying_eq]; exact hf))
    · rw [replying_eq, released_eq]
    · rw [replying_eq]; rfl
    · rw [← released_drive, replying_eq]; rfl
    · rw [replying_port, released_port]

/-! ## A waiting request withdrawn by a grant (R88, R79, R80) -/

/-- The entry as a withdrawal leaves it: marked, and waiting for its pass-through completion. -/
def withdrawn (e : Entry) : Entry := { e with mark := some .withdrawn, status := .queued }

theorem withdraws_of_waiting (s : State) (p : Port) (d : DriveNo) (e : Entry) (hd : e.request.drive = d)
    (hp : e.port ≠ p) (hm : e.mark = none) (hs : e.status ≠ .dispatched) (hresults : s.results = [])
    (horders : ∀ o ∈ s.orders, o.requester = none) : s.withdraws p d e = true := by
  have hany : (s.orders.any fun o => o.requester = some e.ref && o.started) = false :=
    List.any_eq_false.2 fun o ho => by simp [horders o ho]
  simp [State.withdraws, State.hasResult, hd, hp, hm, hs, hresults, hany]

/-- The one entry of the Request Queue, a read or a write, is withdrawn: it is marked, its port's pass-through look is due,
and before it was HELD also an offer of the drive. -/
theorem withdraw_of_only (p : Port) (d : DriveNo) (e : Entry) (t : Turn) (hq : t.st.queue = [e])
    (hw : t.st.withdraws p d e = true) (hk : e.kind ≠ .spareTrack) :
    withdraw p d t =
      (((t.upd fun s => { s with queue := [withdrawn e] }).whenDo (e.status = .held) fun t => t.push (.offer d)).push
        (.passThrough e.port d)) := by
  have hlost : t.st.queue.filter (t.st.withdraws p d) = [e] := by simp [hq, hw]
  have hqueue : (t.st.queue.map fun e =>
      if t.st.withdraws p d e then { e with mark := some .withdrawn, status := .queued } else e) = [withdrawn e] := by
    simp [hq, hw, withdrawn]
  have hports : (allPorts.filter fun q => [e].any fun e => e.port = q) = [e.port] := by
    cases h : e.port <;> simp [allPorts, h]
  have hspare : ([e].filter fun e => e.kind = .spareTrack) = [] := by simp [hk]
  simp only [withdraw, hlost, hspare, hports, Turn.upd, hqueue, Turn.each, List.foldl_nil, List.foldl_cons]
  simp

/-- The oldest entry of a port for a drive has a mark: it completes by it, and the port, the drive and image service are
looked at again (R79, R80). -/
theorem passThrough_of_marked (d : DriveNo) (e : Entry) (m : PassMark) (t : Turn) (hr : t.st.stringReset = none)
    (hq : t.st.queue = [e]) (hd : e.request.drive = d) (hs : e.status ≠ .dispatched) (hm : e.mark = some m)
    (hresults : t.st.results = []) :
    passThrough e.port d t =
      (((t.upd fun s => { s with queue := [] }.appendRecord e.port (markedRecord e m)).push
        (.passThrough e.port d)).push (.offer d)).push .imageCheck := by
  have hflight : t.st.inFlight e.port d = false := by simp [State.inFlight, hq, hs]
  have holdest : t.st.oldest e.port d = some e := by simp [State.oldest, hq, hd]
  have hleft : ({ (t.st.appendRecord e.port (markedRecord e m)).removeEntry e.ref with
      results := t.st.results.filter fun x => x.ref ≠ e.ref } : State) =
      { t.st with queue := [] }.appendRecord e.port (markedRecord e m) := by
    have hqueue : (t.st.queue.filter fun x => x.ref ≠ e.ref) = [] := by simp [hq]
    have hresults' : (t.st.results.filter fun x => x.ref ≠ e.ref) = t.st.results := by simp [hresults]
    simp only [hresults', State.removeEntry, State.appendRecord, State.onPort, hqueue]
  simp only [passThrough, State.resetting, hr, Option.isSome_none, hflight, Bool.or_self, Bool.false_eq_true, if_false,
    holdest, State.passRecord, hm, Turn.upd, hleft]

/-- The unit with port `p` as the holder of drive `d`, and `l` in the Request Queue. -/
def grantedLeaving (p : Port) (d : DriveNo) (l : List Entry) (s : State) : State := { granted p d s with queue := l }

@[simp] theorem grantedLeaving_port (p r : Port) (d : DriveNo) (l : List Entry) (s : State) :
    (grantedLeaving p d l s).port r = s.port r := rfl

theorem grantedLeaving_drive (p : Port) (d k : DriveNo) (l : List Entry) (s : State) :
    (grantedLeaving p d l s).drive k = if k = d then { s.drive d with holder := some p } else s.drive k :=
  granted_drive p d k s

/-- The grant's effect where the one entry of the queue is withdrawn. -/
theorem admitted_reserve_withdraws (s : State) (p : Port) (tag : Nat) (d : DriveNo) (e : Entry) (hq : s.queue = [e])
    (hw : s.withdraws p d e = true) (hk : e.kind ≠ .spareTrack) :
    admitted p (.reserve tag d) ⟨(s.sending []).onPort p fun u => { u with link := .exchange, reply := none }, []⟩ =
      ⟨((grantedLeaving p d [withdrawn e] s).onPort p fun u => { u with link := .exchange, reply := none }).reply p
        (.answer 9 tag .granted), .passThrough e.port d :: if e.status = .held then [.offer d] else []⟩ := by
  rw [admitted_reserve, withdraw_of_only p d e _ hq hw hk]
  by_cases hheld : e.status = .held
  · simp only [Turn.whenDo, hheld, decide_true, if_true]
    rfl
  · simp only [Turn.whenDo, hheld, decide_false, Bool.false_eq_true, if_false]
    rfl

/-- The unit after the grant that withdraws `e`: port `p` holds the drive, the Answer is given, the entry is gone with its
record. -/
def withdrawalDone (p : Port) (tag : Nat) (d : DriveNo) (e : Entry) (s : State) : State :=
  ((grantedLeaving p d [] s).emit (.message p (.answer 9 tag .granted))).appendRecord e.port (markedRecord e .withdrawn)

theorem withdrawalDone_port (p r : Port) (tag : Nat) (d : DriveNo) (e : Entry) (s : State) :
    (withdrawalDone p tag d e s).port r =
      if r = e.port then
        { s.port e.port with
          status := (s.port e.port).status ++ [markedRecord e .withdrawn], statusPending := true }
      else s.port r := by
  have hpending : ((s.port e.port).status ++ [markedRecord e .withdrawn]).isEmpty = false := by
    cases (s.port e.port).status <;> rfl
  rw [withdrawalDone, State.appendRecord, State.onPort_port]
  simp [eq_comm (a := e.port), PortUnit.refreshPending, hpending]

/-- Nothing that the withdrawal sets off finds anything to do: the port has no entry, the drive is busy, and without
entries no image service is dispatched. -/
theorem runTask_withdrawalDone (p : Port) (tag : Nat) (d : DriveNo) (e : Entry) (s : State)
    (hbusy : (s.drive d).state ≠ .idle) (x : Task) (hx : x = .passThrough e.port d ∨ x = .offer d ∨ x = .imageCheck)
    (l : List Task) : runTask x ⟨withdrawalDone p tag d e s, l⟩ = ⟨withdrawalDone p tag d e s, l⟩ := by
  have hqueue : (withdrawalDone p tag d e s).queue = [] := rfl
  have hstate : ((withdrawalDone p tag d e s).drive d).state = (s.drive d).state := by
    show ((grantedLeaving p d [] s).drive d).state = _
    rw [grantedLeaving_drive, if_pos rfl]
  rcases hx with rfl | rfl | rfl
  · exact passThrough_none _ _ _ (by simp [State.oldest, hqueue])
  · exact offer_busy d _ (by rw [hstate]; exact hbusy)
  · exact congrArg (Turn.mk · l) (imageDispatch_of_no_requests _ hqueue)

/-- The follow-ups of the grant: the pass-through look completes the entry, and what that sets off finds nothing. -/
theorem close_of_withdrawn (s : State) (p : Port) (tag : Nat) (d : DriveNo) (e : Entry) (l : List Task)
    (hf : s.followUps = []) (hr : s.stringReset = none) (hresults : s.results = []) (hbusy : (s.drive d).state ≠ .idle)
    (hd : e.request.drive = d) (hl : l = [] ∨ l = [.offer d]) :
    (Turn.mk ((grantedLeaving p d [withdrawn e] s).emit (.message p (.answer 9 tag .granted)))
      (.passThrough e.port d :: l)).close = withdrawalDone p tag d e s := by
  have htake : runTask (.passThrough e.port d)
      ⟨(grantedLeaving p d [withdrawn e] s).emit (.message p (.answer 9 tag .granted)), l⟩ =
      ⟨withdrawalDone p tag d e s, insertTask .imageCheck (insertTask (.offer d) (insertTask (.passThrough e.port d) l))⟩ :=
    passThrough_of_marked d (withdrawn e) .withdrawn _ hr rfl hd (by simp [withdrawn]) rfl hresults
  rw [Turn.close_cons _ _ _ _ htake, settle_of_idle_tasks]
  · simpa only [Turn.close, settle_nil] using Turn.close_nil (withdrawalDone p tag d e s) hf
  · rcases hl with rfl | rfl <;> simp [Task.rank]
  · intro x hx
    refine runTask_withdrawalDone p tag d e s hbusy x ?_
    rcases hl with rfl | rfl <;> simpa [Task.rank] using hx

/-- Settles O23: the grant marks the entry, and its pass-through completion follows in the same step. -/
theorem grantWithdrawsOtherPorts : Obligations.GrantWithdrawsOtherPorts := by
  intro s p q tag d e hf hl hr hi hh hbusy hq hresults horders _ hport hqp hd hm hk hs
  subst hport hd
  have hlinked : LinkFree (grantedLeaving p e.request.drive [withdrawn e] s) p := hl
  have hw : s.withdraws p e.request.drive e = true := withdraws_of_waiting s p _ e rfl hqp hm hs hresults horders
  refine ⟨withdrawalDone p tag e.request.drive e s, ?_, rfl, rfl, fun k => granted_drive p _ k s,
    fun r => withdrawalDone_port p r tag _ e s⟩
  rw [exec_reserveDrive,
    complete_present_admitted s p _ false hf hl (refusal_reserve_of_unheld s p tag _ hr hi (.inl hh)),
    admitted_reserve_withdraws s p tag _ e hq hw hk]
  simp only [Turn.upd, afterExchange_reply _ p _ false hlinked]
  refine congrArg Host.Outcome.next (close_of_withdrawn s p tag _ e _ hf hr hresults hbusy rfl ?_)
  split <;> simp

end Sys2Proof.Machine.Reservations

/-! SUPPORT. The items of a drive record that stand through everything the unit does on its own: its straps (R185), its
angular position but for its own marks (R1) and its reservation holder (R98). One lemma an operation: it leaves the drive
records as they are (`…_drives`), or leaves their standing items (`…_standings`). -/

namespace Sys2Proof.Machine.StandingItems

/-- The items of a drive record that no drive event but a mark, no limit and no follow-up sets. -/
structure Standing where
  installed : Bool
  autoSparing : Bool
  angle : Nat
  holder : Option Port

@[reducible] def standing (r : DriveRecord) : Standing := ⟨r.installed, r.autoSparing, r.angle, r.holder⟩

/-- The standing items of the eight drives. -/
def standings (v : Vector DriveRecord 8) : Vector Standing 8 := v.map standing

/-- The reservation holders of the eight drives (R86). -/
def holders (v : Vector DriveRecord 8) : Vector (Option Port) 8 := v.map DriveRecord.holder

theorem holders_of_standings (v w : Vector DriveRecord 8) (h : standings v = standings w) : holders v = holders w := by
  have hmap : ∀ v, holders v = (standings v).map Standing.holder := fun v => by
    simp [holders, standings, Function.comp_def]
  rw [hmap, hmap, h]

theorem sameHolders_of_holders (s t : State) (h : holders s.drives = holders t.drives) : SameHolders s t := fun d => by
  have hd : (holders s.drives)[d] = (holders t.drives)[d] := by rw [h]
  simpa [holders, State.drive] using hd

/-! ## A change of one record -/

/-- A projection of the drive records that a change of one of them keeps. -/
theorem map_onDrive {α : Type} (g : DriveRecord → α) (s : State) (d : DriveNo) (f : DriveRecord → DriveRecord)
    (h : ∀ r, g (f r) = g r) : (s.onDrive d f).drives.map g = s.drives.map g := by
  ext i hi
  by_cases hd : d.val = i
  · subst hd; simp [State.onDrive, h]
  · simp [State.onDrive, Vector.getElem_set_ne, hd]

@[simp] theorem onDrive_standings (s : State) (d : DriveNo) (f : DriveRecord → DriveRecord)
    (h : ∀ r, standing (f r) = standing r) : standings (s.onDrive d f).drives = standings s.drives :=
  map_onDrive standing s d f h

theorem onDrive_holders (s : State) (d : DriveNo) (f : DriveRecord → DriveRecord)
    (h : ∀ r, (f r).holder = r.holder) : holders (s.onDrive d f).drives = holders s.drives :=
  map_onDrive DriveRecord.holder s d f h

/-! ## Lists of changes -/

@[simp] theorem each_drives {α : Type} (t : Turn) (l : List α) (f : α → Turn → Turn)
    (h : ∀ x t, (f x t).st.drives = t.st.drives) : (t.each l f).st.drives = t.st.drives := by
  induction l generalizing t with
  | nil => rfl
  | cons x l ih => exact (ih (f x t)).trans (h x t)

@[simp] theorem each_standings {α : Type} (t : Turn) (l : List α) (f : α → Turn → Turn)
    (h : ∀ x t, standings (f x t).st.drives = standings t.st.drives) :
    standings (t.each l f).st.drives = standings t.st.drives := by
  induction l generalizing t with
  | nil => rfl
  | cons x l ih => exact (ih (f x t)).trans (h x t)

theorem foldl_drives {α : Type} (s : State) (l : List α) (f : State → α → State)
    (h : ∀ s x, (f s x).drives = s.drives) : (l.foldl f s).drives = s.drives := by
  induction l generalizing s with
  | nil => rfl
  | cons x l ih => exact (ih (f s x)).trans (h s x)

/-! ## Drive bus commands (R4) -/

section
variable (s : State) (d : DriveNo)

@[simp] theorem headSelect_standings (h : Nat) : standings (s.headSelect d h).drives = standings s.drives := by
  simp [State.headSelect]

@[simp] theorem sendOffset_standings (o : Offset) : standings (s.sendOffset d o).drives = standings s.drives := by
  simp [State.sendOffset]

@[simp] theorem offset_standings (o : Offset) : standings (s.offset d o).drives = standings s.drives := by
  unfold State.offset; split <;> simp

@[simp] theorem seek_standings (c : Nat) : standings (s.seek d c).drives = standings s.drives := by
  simp [State.seek]

@[simp] theorem recalibrate_standings : standings (s.recalibrate d).drives = standings s.drives := by
  simp [State.recalibrate]

@[simp] theorem recallLoad_standings : standings (s.recallLoad d).drives = standings s.drives := by
  unfold State.recallLoad; split <;> simp

/-! ## Port Units and the Request Queue -/

@[simp] theorem addAttention_drives : (s.addAttention d).drives = s.drives := rfl

@[simp] theorem appendRecord_drives (p : Port) (r : CompletionRecord) : (s.appendRecord p r).drives = s.drives := rfl

@[simp] theorem endConnection_drives (p : Port) : (s.endConnection p).drives = s.drives := by
  unfold State.endConnection; split <;> rfl

@[simp] theorem removeEntry_drives (r : EntryRef) : (s.removeEntry r).drives = s.drives := rfl

@[simp] theorem holdTouching_drives : (s.holdTouching d).drives = s.drives := rfl

@[simp] theorem releaseHeld_drives (t : Turn) : (releaseHeld d t).st.drives = t.st.drives := by
  simp only [releaseHeld]; split <;> rfl

/-! ## The Sparing Queue (9.2) -/

@[simp] theorem onOrder_drives (o : Order) (f : Order → Order) : (s.onOrder o f).drives = s.drives := rfl

@[simp] theorem onStarted_drives (f : Order → Order) : (s.onStarted d f).drives = s.drives := rfl

@[simp] theorem unraise_drives (n : Nat) : (s.unraise d n).drives = s.drives := rfl

@[simp] theorem committedMarks_drives (n : Nat) (v : Track) : (s.committedMarks d n v).drives = s.drives := rfl

end

theorem makeRoom_drives (t u : Turn) (h : makeRoom t = some u) : u.st.drives = t.st.drives := by
  unfold makeRoom at h
  split at h
  · cases h; rfl
  · split at h
    · cases h
    · cases h
      simp only [Turn.upd_st]
      split <;> rfl

@[simp] theorem orderLeaves_drives (o : Order) (t : Turn) : (orderLeaves o t).st.drives = t.st.drives := by
  simp only [orderLeaves]; split <;> rfl

@[simp] theorem orderRemoved_drives (o : Order) (t : Turn) : (orderRemoved o t).st.drives = t.st.drives := by
  simp only [orderRemoved, orderLeaves_drives]; split <;> rfl

@[simp] theorem giveResult_drives (d : DriveNo) (x : SpareResult) (t : Turn) :
    (giveResult d x t).st.drives = t.st.drives := by
  unfold giveResult; split <;> rfl

@[simp] theorem placeMapWrite_drives (d : DriveNo) (t : Turn) : (placeMapWrite d t).st.drives = t.st.drives := by
  unfold placeMapWrite
  split
  · rfl
  · split <;> rfl

theorem placeRecovery_drives (k : Nat) (d : DriveNo) (n : Nat) (r : Option EntryRef) (t u : Turn)
    (h : placeRecovery k d n r t = some u) : u.st.drives = t.st.drives := by
  unfold placeRecovery at h
  split at h
  · cases h; rfl
  · obtain ⟨v, hv, rfl⟩ := Option.map_eq_some_iff.1 h
    exact makeRoom_drives t v hv

@[simp] theorem fillPlace_drives (t : Turn) : (fillPlace t).st.drives = t.st.drives := by
  unfold fillPlace
  split
  · rfl
  · split
    · split
      · split
        next u hu => exact placeRecovery_drives _ _ _ _ t u hu
        next => rfl
      · rfl
    · split <;> rfl

@[simp] theorem placeSpareTrack_drives (r : EntryRef) (d : DriveNo) (n : Nat) (t : Turn) :
    (placeSpareTrack r d n t).1.st.drives = t.st.drives := by
  unfold placeSpareTrack
  split
  · simp
  · split
    · split
      next u hu => exact placeRecovery_drives _ _ _ _ t u hu
      next => simp
    · split
      · split
        · rfl
        · simp only [Turn.upd_st]; split <;> rfl
      · split
        next u hu => exact makeRoom_drives t u hu
        next => simp

@[simp] theorem placeAwaiting_drives (l : List EntryRef) (t : Turn) :
    (placeAwaiting l t).st.drives = t.st.drives := by
  induction l generalizing t with
  | nil => rfl
  | cons r l ih =>
    unfold placeAwaiting
    split
    · exact ih _
    · split
      · exact ih _
      · simp only []
        split <;> simp [ih]

@[simp] theorem freedPlace_drives (t : Turn) : (freedPlace t).st.drives = t.st.drives := by
  simp only [freedPlace]; split <;> simp

/-! ## The Error History Table (8.5, 8.6) -/

@[simp] theorem candidateRoute_drives (d : DriveNo) (v : Track) (n : Nat) (b : Bool) (t : Turn) :
    (candidateRoute d v n b t).st.drives = t.st.drives := by
  unfold candidateRoute
  split
  · split
    · rfl
    · split <;> rfl
  · rfl

@[simp] theorem candidateRule_drives (d : DriveNo) (v : Track) (n : Nat) (b : Bool) (t : Turn) :
    (candidateRule d v n b t).st.drives = t.st.drives := by
  unfold candidateRule
  split
  · rfl
  · split <;> simp

@[simp] theorem recordVisit_drives (d : DriveNo) (v : Track) (r : VisitResult) (b : Bool) (t : Turn) :
    (recordVisit d v r b t).st.drives = t.st.drives := by
  unfold recordVisit; split <;> simp

@[simp] theorem endVisit_drives (d : DriveNo) (v : Option Track) (r : Option VisitResult) (b : Bool) (t : Turn) :
    (endVisit d v r b t).st.drives = t.st.drives := by
  unfold endVisit; split <;> simp

/-! ## Reconnect windows and positioning (chapter 3) -/

section
variable (s : State) (d : DriveNo)

@[simp] theorem armWindow_drives (b l : Nat) (h : Bool) : (s.armWindow d b l h).drives = s.drives := by
  rw [State.armWindow_eq]; split <;> rfl

@[simp] theorem disarm_drives : (s.disarm d).drives = s.drives := rfl

@[simp] theorem onSlot_drives (i : Fin 9) (f : Package → Package) : (s.onSlot i f).drives = s.drives := rfl

@[simp] theorem expireWindow_drives : (s.expireWindow d).drives = s.drives := by
  rw [Positioning.expireWindow_frame]

@[simp] theorem openAtMark_drives : (s.openAtMark d).drives = s.drives := by
  rw [Positioning.openAtMark_frame]

@[simp] theorem armHost_standings : standings (s.armHost d).drives = standings s.drives := by
  unfold State.armHost
  split
  · rfl
  · simp only [armWindow_drives]
    split <;> simp

@[simp] theorem orient_standings : standings (s.orient d).drives = standings s.drives := by
  simp [State.orient]

@[simp] theorem sendTo_standings (v : Track) : standings (s.sendTo d v).drives = standings s.drives := by
  simp only [State.sendTo]; split <;> simp

/-! ## Path Control (chapter 6) -/

@[simp] theorem dropActive_drives (b : Bool) : (s.dropActive d b).drives = s.drives := rfl

@[simp] theorem noteCheck_drives (i : Fin 9) (v : Option Track) (r : CompletionRecord) :
    (s.noteCheck d i v r).drives = s.drives := by
  unfold State.noteCheck
  split
  · split <;> rfl
  · rfl

@[simp] theorem abandonPath_drives (p : Package) (i : Fin 9) : (s.abandonPath d p i).drives = s.drives := by
  simp [State.abandonPath]

@[simp] theorem disconnect_drives : s.disconnect.drives = s.drives := by
  unfold State.disconnect
  split
  · split <;> simp
  · rfl

@[simp] theorem resume_standings (why : Leaving) : standings (s.resume d why).drives = standings s.drives := by
  unfold State.resume
  split
  · rfl
  · split <;> simp

@[simp] theorem arbiterGrants_drives (i : Fin 9) : (s.arbiterGrants i).drives = s.drives := rfl

@[simp] theorem openConnection_drives (p : Package) : (s.openConnection p).drives = s.drives := by
  unfold State.openConnection; split <;> rfl

@[simp] theorem grant_standings (i : Fin 9) : standings (s.grant i).drives = standings s.drives := by
  unfold State.grant
  simp only []
  split
  · split
    · rfl
    · split <;> simp
  · split <;> simp

end

@[simp] theorem enterIdle_standings (d : DriveNo) (t : Turn) :
    standings (enterIdle d t).st.drives = standings t.st.drives := by
  simp [enterIdle]

@[simp] theorem imageContextEnded_drives (t : Turn) : (imageContextEnded t).st.drives = t.st.drives := by
  unfold imageContextEnded; split <;> rfl

@[simp] theorem completeRequest_drives (i : Fin 9) (p : Package) (v : Option Track) (e : Ending) (t : Turn) :
    (completeRequest i p v e t).st.drives = t.st.drives := by
  have hvisit : (if e.dropsVisit then t
      else endVisit p.drive p.visitTrack p.visitResult p.flags.sparePermit t).st.drives = t.st.drives := by
    split <;> simp
  simp only [completeRequest, Turn.push_st]
  split <;> simp [hvisit]

@[simp] theorem completeConnected_standings (e : Ending) (t : Turn) :
    standings (completeConnected e t).st.drives = standings t.st.drives := by
  unfold completeConnected
  split
  · split
    · simp only []
      split <;> simp
    · rfl
  · rfl

@[simp] theorem abandonConnected_standings (t : Turn) :
    standings (abandonConnected t).st.drives = standings t.st.drives := by
  unfold abandonConnected
  split
  · split
    · simp only []
      split
      · simp
      · split <;> simp
    · rfl
  · rfl

@[simp] theorem abandonSoon_standings (t : Turn) : standings (abandonSoon t).st.drives = standings t.st.drives := by
  unfold abandonSoon; split <;> simp

@[simp] theorem takeExchangeOut_standings (t : Turn) :
    standings (takeExchangeOut t).st.drives = standings t.st.drives := by
  unfold takeExchangeOut
  split
  · split
    · split
      · simp only [Turn.upd_st]
        split <;> simp
      · simp only [Turn.upd_st]
        split <;> simp
    · rfl
  · rfl

/-! ## Map operations and sparing (chapters 2 and 9) -/

section
variable (s : State) (d : DriveNo)

@[simp] theorem leaveBuffer_drives : (s.leaveBuffer d).drives = s.drives := rfl

@[simp] theorem armWork_drives : (s.armWork d).drives = s.drives := by
  unfold State.armWork
  split
  · split <;> simp
  · rfl

@[simp] theorem beginWork_drives (k : WorkKind) (v : Track) (n : Nat) : (s.beginWork d k v n).drives = s.drives := by
  simp [State.beginWork]

@[simp] theorem beginS2_drives : (s.beginS2 d).drives = s.drives := by
  unfold State.beginS2
  split
  · split <;> rfl
  · rfl

@[simp] theorem takeBuffer_drives (op : MapOp) : (s.takeBuffer op).drives = s.drives := by
  simp only [State.takeBuffer]; split <;> simp

@[simp] theorem askBuffer_drives (op : MapOp) : (s.askBuffer op).drives = s.drives := by
  unfold State.askBuffer
  split
  · rfl
  · split <;> simp

@[simp] theorem bufferNext_drives : s.bufferNext.drives = s.drives := by
  unfold State.bufferNext; split <;> simp

@[simp] theorem beginStep_drives (o : Order) : (s.beginStep d o).drives = s.drives := by
  unfold State.beginStep; split <;> simp

@[simp] theorem workArrived_standings : standings (s.workArrived d).drives = standings s.drives := by
  simp only [State.workArrived]
  split
  · split <;> simp
  · split
    · simp
    · split <;> simp
    · simp

@[simp] theorem sendToStep_standings : standings (s.sendToStep d).drives = standings s.drives := by
  unfold State.sendToStep
  split
  · simp only []
    split <;> simp
  · rfl

@[simp] theorem dropReference_drives (r : EntryRef) : (s.dropReference r).drives = s.drives := rfl

@[simp] theorem setMapState_standings (m : MapState) : standings (s.setMapState d m).drives = standings s.drives := by
  simp [State.setMapState]

@[simp] theorem loadMap_standings (l : List SpareEntry) (r : List Nat) (m : MapState) :
    standings (s.loadMap d l r m).drives = standings s.drives := by
  simp [State.loadMap]

end

section
variable (d : DriveNo) (t : Turn)

@[simp] theorem releaseImage_drives : (releaseImage t).st.drives = t.st.drives := by
  unfold releaseImage; split <;> rfl

@[simp] theorem enterStep_standings (k : OrderStep) :
    standings (enterStep d k t).st.drives = standings t.st.drives := by
  simp only [enterStep]; split <;> simp

@[simp] theorem enterS3_standings : standings (enterS3 d t).st.drives = standings t.st.drives := by
  simp [enterS3]

@[simp] theorem enterS6_standings : standings (enterS6 d t).st.drives = standings t.st.drives := by
  unfold enterS6
  split
  · split <;> simp
  · rfl

@[simp] theorem answerRequester_drives (o : Order) (r : EntryRef → SpareResult) :
    (answerRequester d o r t).st.drives = t.st.drives := by
  unfold answerRequester; split <;> simp

@[simp] theorem failOrder_standings (c : Condition) :
    standings (failOrder d c t).st.drives = standings t.st.drives := by
  unfold failOrder
  split
  · split
    · simp only []
      split <;> split <;> simp
    · rfl
  · rfl

@[simp] theorem finishOrder_standings : standings (finishOrder d t).st.drives = standings t.st.drives := by
  unfold finishOrder
  split
  · split <;> simp
  · rfl

@[simp] theorem alternateFailed_standings : standings (alternateFailed d t).st.drives = standings t.st.drives := by
  unfold alternateFailed
  split
  · split
    · simp only []
      split <;> simp
    · rfl
  · rfl

@[simp] theorem finishMapWrite_standings (o : Order) :
    standings (finishMapWrite d o t).st.drives = standings t.st.drives := by
  simp [finishMapWrite]

@[simp] theorem orderLost_drives : (orderLost d t).st.drives = t.st.drives := by
  simp only [orderLost]
  split
  · split <;> simp
  · simp

@[simp] theorem detachEntry_drives (r : EntryRef) : (detachEntry r t).st.drives = t.st.drives := by
  simp only [detachEntry]
  split
  · split <;> simp
  · simp

@[simp] theorem sparingUnavailable_drives (r : EntryRef) : (sparingUnavailable d r t).st.drives = t.st.drives := by
  simp [sparingUnavailable]

@[simp] theorem restoreOthers_drives : (restoreOthers d t).st.drives = t.st.drives := by
  simp only [restoreOthers, releaseHeld_drives, Turn.upd_st, State.onMap_drives]
  exact foldl_drives _ _ _ fun _ _ => rfl

@[simp] theorem mapDegraded_drives (b : Bool) : (mapDegraded d b t).st.drives = t.st.drives := by
  simp only [mapDegraded]
  refine (each_drives _ _ _ fun o t => by simp).trans ?_
  refine (each_drives _ _ _ fun r t => by simp).trans ?_
  refine (each_drives _ _ _ fun o t => by split <;> simp).trans ?_
  split <;> simp

@[simp] theorem enterS1_standings (n : Nat) : standings (enterS1 d n t).st.drives = standings t.st.drives := by
  simp only [enterS1]; split <;> simp

@[simp] theorem startOrder_standings (o : Order) : standings (startOrder o t).st.drives = standings t.st.drives := by
  simp only [startOrder]
  split
  · simp
  · split <;> simp

@[simp] theorem placeRecoveries_drives (k : Nat) (l : List Nat) :
    (placeRecoveries d k l t).st.drives = t.st.drives := by
  induction l generalizing k t with
  | nil => rfl
  | cons n l ih =>
    unfold placeRecoveries
    split
    next u hu => exact (ih u (k + 1)).trans (placeRecovery_drives _ _ _ _ t u hu)
    next => exact ih _ k

@[simp] theorem loadEnds_standings (r : WorkResult) : standings (loadEnds d r t).st.drives = standings t.st.drives := by
  simp only [loadEnds]; split <;> simp

@[simp] theorem mapLoadEnd_standings : standings (mapLoadEnd d t).st.drives = standings t.st.drives := by
  unfold mapLoadEnd; split <;> simp

@[simp] theorem mapWriteEnds_standings (o : Order) (ok : Bool) :
    standings (mapWriteEnds d o ok t).st.drives = standings t.st.drives := by
  unfold mapWriteEnds
  split
  · simp only []
    split <;> simp
  · split
    · simp only []
      split <;> simp
    · simp
  · split <;> simp
  · rfl

@[simp] theorem mapWriteEnd_standings : standings (mapWriteEnd d t).st.drives = standings t.st.drives := by
  unfold mapWriteEnd
  split
  · simp only []
    split <;> split <;> simp
  · rfl

@[simp] theorem sparingReadEnd_standings : standings (sparingReadEnd d t).st.drives = standings t.st.drives := by
  unfold sparingReadEnd
  split
  · simp only []
    split <;> simp
  · rfl

@[simp] theorem sparingWriteVerifyEnd_standings :
    standings (sparingWriteVerifyEnd d t).st.drives = standings t.st.drives := by
  unfold sparingWriteVerifyEnd
  split
  · simp only []
    split <;> simp
  · rfl

@[simp] theorem sparingMarkEnd_standings : standings (sparingMarkEnd d t).st.drives = standings t.st.drives := by
  unfold sparingMarkEnd; split <;> simp

@[simp] theorem anyWorkEnd_standings : standings (anyWorkEnd d t).st.drives = standings t.st.drives := by
  simp [anyWorkEnd]

/-! ## What is due at the connected context -/

@[simp] theorem imageStall_drives : (imageStall t).st.drives = t.st.drives := by
  unfold imageStall; split <;> rfl

@[simp] theorem linkTimedOut_standings : standings (linkTimedOut t).st.drives = standings t.st.drives := by
  unfold linkTimedOut
  split
  · split <;> simp
  · rfl

@[simp] theorem exchangeOutNow_standings : standings (exchangeOutNow t).st.drives = standings t.st.drives := by
  unfold exchangeOutNow; split <;> simp

@[simp] theorem takeDue_standings : standings (takeDue d t).st.drives = standings t.st.drives := by
  simp only [takeDue, anyWorkEnd_standings]; split <;> simp

@[simp] theorem cutRecording_drives (s : State) : s.cutRecording.drives = s.drives := by
  unfold State.cutRecording
  split
  · split
    · split <;> rfl
    · rfl
  · rfl

end

/-! ## The disk side of a connected host request (chapters 6 to 8) -/

section
variable (s : State) (d : DriveNo)

@[simp] theorem setDisk_drives (x : DiskSide) : (s.setDisk x).drives = s.drives := rfl

@[simp] theorem leave_drives (why : Leaving) : (s.leave why).drives = s.drives := rfl

@[simp] theorem endLadder_standings : standings (s.endLadder d).drives = standings s.drives := by
  simp [State.endLadder]

@[simp] theorem takeHeld_standings : standings s.takeHeld.drives = standings s.drives := by
  unfold State.takeHeld
  split
  · split
    · split
      · split <;> simp
      · rfl
    · rfl
  · rfl

@[simp] theorem headSwitch_standings (a : Active) : standings (s.headSwitch d a).drives = standings s.drives := by
  simp only [State.headSwitch]; split <;> simp

@[simp] theorem advanceDisk_standings : standings s.advanceDisk.drives = standings s.drives := by
  simp only [State.advanceDisk]
  split
  · split <;> split <;> simp
  · rfl

@[simp] theorem addConditions_drives (l : List Condition) : (s.addConditions l).drives = s.drives := rfl

@[simp] theorem noteVisit_drives (r : VisitResult) : (s.noteVisit r).drives = s.drives := rfl

@[simp] theorem doubtRotation_standings (b : Bool) : standings (s.doubtRotation d b).drives = standings s.drives := by
  unfold State.doubtRotation; split <;> simp

@[simp] theorem recoverMismatch_standings (v : Track) :
    standings (s.recoverMismatch d v).drives = standings s.drives := by
  simp [State.recoverMismatch]

@[simp] theorem pacingLoss_drives (a : Active) (p : Package) : (s.pacingLoss a p).drives = s.drives := by
  simp only [State.pacingLoss]; split <;> rfl

@[simp] theorem ringPush_drives (x : RingSlot) : (s.ringPush x).drives = s.drives := rfl

@[simp] theorem ringHead_drives (f : RingSlot → RingSlot) : (s.ringHead f).drives = s.drives := rfl

@[simp] theorem beginBlock_drives (b : Bool) (f : Option IdField) : (s.beginBlock b f).drives = s.drives := rfl

@[simp] theorem takeBlock_drives (a : Active) (p : Package) (v : Track) (b : Bool) (f : Option IdField) :
    (s.takeBlock a p v b f).drives = s.drives := by
  simp only [State.takeBlock]
  split
  · rfl
  · split
    · rfl
    · split <;> rfl

@[simp] theorem countRetryWait_drives (a : Active) : (s.countRetryWait a).drives = s.drives := by
  unfold State.countRetryWait; split <;> rfl

@[simp] theorem drainLoss_drives (a : Active) (p : Package) : (s.drainLoss a p).drives = s.drives := by
  unfold State.drainLoss; split <;> rfl

@[simp] theorem ringTail_drives (f : RingSlot → RingSlot) : (s.ringTail f).drives = s.drives := rfl

@[simp] theorem advanceLadder_standings (a : Active) (p : Package) :
    standings (s.advanceLadder a p).drives = standings s.drives := by
  simp only [State.advanceLadder]; split <;> simp

@[simp] theorem notePass_drives (n : Nat) : (s.notePass n).drives = s.drives := by
  unfold State.notePass; split <;> rfl

@[simp] theorem recordHost_drives (a : Active) (v : Track) (c : Content) : (s.recordHost a v c).drives = s.drives := rfl

@[simp] theorem ringDropHead_drives : s.ringDropHead.drives = s.drives := rfl

/-! ## The port side (R124, R127, R137) -/

@[simp] theorem portIdle_drives : s.portIdle.drives = s.drives := rfl

@[simp] theorem portCarry_drives (n : Nat) : (s.portCarry n).drives = s.drives := rfl

@[simp] theorem arrive_drives (p : Package) (b : BlockData) : (s.arrive p b).drives = s.drives := by
  simp only [State.arrive]; split <;> simp

@[simp] theorem carryHead_drives (p : Package) : (s.carryHead p).drives = s.drives := by
  unfold State.carryHead; split <;> rfl

@[simp] theorem abandonedPort_drives (p : Package) (b : BlockData) : (s.abandonedPort p b).drives = s.drives := by
  unfold State.abandonedPort
  split
  · split <;> simp
  · rfl

@[simp] theorem askNext_drives (a : Active) (p : Package) : (s.askNext a p).drives = s.drives := by
  simp only [State.askNext]; split <;> rfl

end

section
variable (t : Turn) (a : Active) (p : Package) (v : Track) (input : MarkInput)

@[simp] theorem beginVerify_drives : (beginVerify p t).st.drives = t.st.drives := by
  simp [beginVerify]

@[simp] theorem finishBlock_standings : standings (finishBlock v t).st.drives = standings t.st.drives := by
  unfold finishBlock
  split
  · simp only []
    split
    · split
      · split
        · simp
        · split <;> simp
      · simp
    · simp
  · rfl

@[simp] theorem endByCondition_standings (l : List Condition) :
    standings (endByCondition l t).st.drives = standings t.st.drives := by
  unfold endByCondition
  split
  · split
    · simp only []
      split <;> simp
    · rfl
  · rfl

@[simp] theorem hostMismatch_standings (b : Bool) :
    standings (hostMismatch a v b t).st.drives = standings t.st.drives := by
  simp only [hostMismatch]; split <;> simp

@[simp] theorem visitBlock_drives : (visitBlock v p t).st.drives = t.st.drives := by
  unfold visitBlock; split <;> simp

@[simp] theorem adopt_drives (n : Nat) : (adopt a n t).st.drives = t.st.drives := by
  simp only [adopt]; split <;> simp

@[simp] theorem hostField_standings (x : FieldVerdict) :
    standings (hostField a p v x t).st.drives = standings t.st.drives := by
  cases x with
  | lost => simp only [hostField]; split <;> simp
  | _ => simp [hostField]

@[simp] theorem startHostBlock_standings :
    standings (startHostBlock a p input t).st.drives = standings t.st.drives := by
  unfold startHostBlock
  split
  · rfl
  · simp only []
    split <;> simp

@[simp] theorem failHostBlock_standings : standings (failHostBlock a p t).st.drives = standings t.st.drives := by
  unfold failHostBlock
  split
  · simp only [Turn.upd_st, advanceLadder_standings]
    split <;> rfl
  · simp only []
    split
    · simp
    · split <;> simp

@[simp] theorem passHostBlock_standings (c : Content) :
    standings (passHostBlock a p v c t).st.drives = standings t.st.drives := by
  simp only [passHostBlock]
  split
  · simp
  · split <;> simp

@[simp] theorem endHostBlock_standings : standings (endHostBlock a p input t).st.drives = standings t.st.drives := by
  unfold endHostBlock
  split
  · rfl
  · simp only []
    split <;> simp

@[simp] theorem endAbandonedBlock_standings :
    standings (endAbandonedBlock a p t).st.drives = standings t.st.drives := by
  simp only [endAbandonedBlock, abandonConnected_standings]
  split
  · split <;> rfl
  · rfl

@[simp] theorem carried_standings : standings (carried p t).st.drives = standings t.st.drives := by
  unfold carried; split <;> simp

@[simp] theorem imageCarried_standings : standings (imageCarried p t).st.drives = standings t.st.drives := by
  simp [imageCarried]

@[simp] theorem imageAbandoned_standings : standings (imageAbandoned p t).st.drives = standings t.st.drives := by
  simp only [imageAbandoned, abandonConnected_standings]; split <;> rfl

@[simp] theorem endPortBlock_standings : standings (endPortBlock a p input t).st.drives = standings t.st.drives := by
  unfold endPortBlock
  split
  · simp only []
    split
    · split
      · split <;> simp
      · split
        · simp
        · split <;> simp
    · rfl
  · rfl

@[simp] theorem drainNext_standings : standings (drainNext p t).st.drives = standings t.st.drives := by
  unfold drainNext
  split
  · split
    · split <;> simp
    · rfl
  · rfl

@[simp] theorem imageNext_standings : standings (imageNext p t).st.drives = standings t.st.drives := by
  simp only [imageNext]; split <;> simp

@[simp] theorem beginPortBlock_standings : standings (beginPortBlock a p t).st.drives = standings t.st.drives := by
  unfold beginPortBlock
  split
  · split
    · simp
    · split <;> simp
  · rfl

end

/-! ## The blocks of a connected work context -/

section
variable (s : State) (d : DriveNo) (w : Work)

@[simp] theorem returnWork_standings (f : Work → Work) :
    standings (s.returnWork d f).drives = standings s.drives := by
  unfold State.returnWork
  split
  · split <;> simp
  · rfl

@[simp] theorem endWork_standings (r : WorkResult) : standings (s.endWork d r).drives = standings s.drives := by
  simp [State.endWork]

@[simp] theorem secondPass_standings (k : WorkKind) (n : Nat) :
    standings (s.secondPass d k n).drives = standings s.drives := by
  simp [State.secondPass]

@[simp] theorem workPassEnds_standings : standings (s.workPassEnds d w).drives = standings s.drives := by
  unfold State.workPassEnds; split <;> simp

@[simp] theorem workBlockDone_standings : standings (s.workBlockDone d w).drives = standings s.drives := by
  simp only [State.workBlockDone]; split <;> simp

@[simp] theorem setImage_drives (b : Nat) (g : ImageTag) (c : Content) : (s.setImage b g c).drives = s.drives := by
  unfold State.setImage; split <;> rfl

@[simp] theorem setUnreadable_drives (b : Nat) : (s.setUnreadable b).drives = s.drives := by
  simp [State.setUnreadable]

@[simp] theorem noteWorkVisit_drives (r : VisitResult) : (s.noteWorkVisit r).drives = s.drives := rfl

@[simp] theorem keepWork_drives (b n : Nat) (c : Content) : (s.keepWork w b n c).drives = s.drives := by
  unfold State.keepWork; split <;> simp

@[simp] theorem recordWork_drives (b : Nat) : (s.recordWork d w b).drives = s.drives := by
  simp only [State.recordWork]; split <;> rfl

@[simp] theorem failWorkBlock_standings (b : Nat) :
    standings (s.failWorkBlock d w b).drives = standings s.drives := by
  unfold State.failWorkBlock
  split
  · rfl
  · split <;> simp

@[simp] theorem endWorkBlock_standings (a : Active) (input : MarkInput) :
    standings (s.endWorkBlock a w input).drives = standings s.drives := by
  simp only [State.endWorkBlock]
  split
  · simp
  · split <;> simp

@[simp] theorem workMismatch_standings (v : Track) (b : Bool) :
    standings (s.workMismatch d v b).drives = standings s.drives := by
  simp only [State.workMismatch]; split <;> simp

@[simp] theorem visitWork_drives : (s.visitWork w).drives = s.drives := by
  unfold State.visitWork; split <;> rfl

@[simp] theorem startWorkBlock_standings (a : Active) (input : MarkInput) :
    standings (s.startWorkBlock a w input).drives = standings s.drives := by
  simp only [State.startWorkBlock]; split <;> simp

end

/-! ## The stages of one mark (R122) -/

section
variable (s : State) (d : DriveNo) (t : Turn) (input : MarkInput)

@[simp] theorem stageDiskEnd_standings : standings (stageDiskEnd input t).st.drives = standings t.st.drives := by
  unfold stageDiskEnd
  split
  · split
    · split
      · rfl
      · split
        · split <;> simp
        · simp
    · rfl
  · rfl

@[simp] theorem stagePortEnd_standings : standings (stagePortEnd input t).st.drives = standings t.st.drives := by
  unfold stagePortEnd
  split
  · split <;> simp
  · rfl

@[simp] theorem stageDiskStart_standings : standings (stageDiskStart input t).st.drives = standings t.st.drives := by
  unfold stageDiskStart
  split
  · split
    · split
      · split <;> simp
      · split <;> simp
    · rfl
  · rfl

@[simp] theorem stagePortStart_standings : standings (stagePortStart t).st.drives = standings t.st.drives := by
  unfold stagePortStart
  split
  · split
    · split <;> simp
    · rfl
  · rfl

@[simp] theorem stageEnded_standings : standings (stageEnded t).st.drives = standings t.st.drives := by
  unfold stageEnded
  split
  · split <;> simp
  · rfl

@[simp] theorem closeDrained_drives : s.closeDrained.drives = s.drives := by
  unfold State.closeDrained
  split
  · split
    · split <;> simp
    · rfl
  · rfl

@[simp] theorem exchangeIn_standings (a : Active) : standings (s.exchangeIn a).drives = standings s.drives := by
  simp only [State.exchangeIn]
  split
  · rfl
  · simp only [takeHeld_standings, sendOffset_standings]
    split
    · split <;> simp
    · rfl

@[simp] theorem becomeReady_drives : s.becomeReady.drives = s.drives := rfl

@[simp] theorem stages_standings : standings (stages input t).st.drives = standings t.st.drives := by
  simp [stages]

@[simp] theorem dataPathMark_standings : standings (dataPathMark d input t).st.drives = standings t.st.drives := by
  unfold dataPathMark
  split
  · split
    · simp only []
      split <;> simp
    · rfl
  · rfl

@[simp] theorem freePath_drives : (s.freePath d).drives = s.drives := by
  unfold State.freePath; split <;> rfl

/-- A mark, once the angular position has been taken, keeps the standing items. -/
@[simp] theorem afterMark_standings : standings (afterMark d input t).st.drives = standings t.st.drives := by
  simp [afterMark]

@[simp] theorem offerDeferred_standings : standings (offerDeferred d t).st.drives = standings t.st.drives := by
  unfold offerDeferred; split <;> simp

/-! ## Positioner Control (1.4) -/

@[simp] theorem markNotReady_drives : (markNotReady d t).st.drives = t.st.drives := by
  simp only [markNotReady]
  refine (each_drives _ _ _ fun p t => by simp).trans ?_
  exact each_drives _ _ _ fun e t => by simp

@[simp] theorem endDispatched_standings (e : Ending) :
    standings (endDispatched d e t).st.drives = standings t.st.drives := by
  simp only [endDispatched]
  split
  · split <;> simp
  · simp

@[simp] theorem becomeFaulted_standings : standings (becomeFaulted d t).st.drives = standings t.st.drives := by
  simp only [becomeFaulted, markNotReady_drives, orderLost_drives]; split <;> simp

@[simp] theorem positionFailure_standings : standings (positionFailure d t).st.drives = standings t.st.drives := by
  simp only [positionFailure]; split <;> simp

@[simp] theorem reseek_standings (v : Track) : standings (s.reseek d v).drives = standings s.drives := by
  simp only [State.reseek]
  split <;> split <;> simp

@[simp] theorem recalibrated_standings : standings (recalibrated d t).st.drives = standings t.st.drives := by
  have hwork : ∀ (s : State) (v : Track), standings
      (if v.cyl = 0 then (s.reseek d v).workArrived d else s.reseek d v).drives = standings s.drives := fun s v => by
    split <;> simp
  simp only [recalibrated]
  split
  · simp
  · split
    · split
      · simp only [Turn.upd_st]
        split <;> simp
      · simp
    · exact (hwork _ _).trans (by simp)

@[simp] theorem arrived_standings : standings (arrived d t).st.drives = standings t.st.drives := by
  simp only [arrived]
  split
  · simp
  · split <;> simp

@[simp] theorem seekAnswered_standings (c : Nat) :
    standings (seekAnswered d c t).st.drives = standings t.st.drives := by
  simp only [seekAnswered]; split <;> simp

@[simp] theorem positioned_standings (c : Nat) : standings (positioned d c t).st.drives = standings t.st.drives := by
  unfold positioned
  split
  · rfl
  · simp
  · split <;> simp

@[simp] theorem seekTimedOut_standings : standings (seekTimedOut d t).st.drives = standings t.st.drives := by
  unfold seekTimedOut; split <;> simp

@[simp] theorem recalibrationTimedOut_standings :
    standings (recalibrationTimedOut d t).st.drives = standings t.st.drives := by
  unfold recalibrationTimedOut; split <;> simp

@[simp] theorem readyRises_standings : standings (readyRises d t).st.drives = standings t.st.drives := by
  simp only [readyRises]; split <;> simp

@[simp] theorem connectedLost_standings : standings (connectedLost d t).st.drives = standings t.st.drives := by
  unfold connectedLost
  split
  · split
    · simp only []
      split
      · split <;> simp
      · simp
    · rfl
  · rfl

@[simp] theorem imageContextLost_drives : (imageContextLost d t).st.drives = t.st.drives := by
  unfold imageContextLost
  split
  · split <;> simp
  · rfl

@[simp] theorem mapUnloaded_standings : standings (mapUnloaded d t).st.drives = standings t.st.drives := by
  simp [mapUnloaded]

@[simp] theorem goOffline_standings : standings (s.goOffline d).drives = standings s.drives := by
  simp only [State.goOffline]; split <;> simp

@[simp] theorem readyFalls_standings : standings (readyFalls d t).st.drives = standings t.st.drives := by
  simp only [readyFalls]; split <;> simp

@[simp] theorem leaveAtOnce_standings : standings (s.leaveAtOnce d).drives = standings s.drives := by
  unfold State.leaveAtOnce; split <;> simp

@[simp] theorem recalibrateIdle_standings : standings (s.recalibrateIdle d).drives = standings s.drives := by
  simp [State.recalibrateIdle]

@[simp] theorem abandonAtFault_standings : standings (s.abandonAtFault d).drives = standings s.drives := by
  unfold State.abandonAtFault
  split
  · split <;> simp
  · rfl

@[simp] theorem faultConnected_standings : standings (faultConnected d t).st.drives = standings t.st.drives := by
  unfold faultConnected
  split
  · split
    · simp
    · split <;> simp
  · rfl

@[simp] theorem positionFaulted_standings : standings (positionFaulted d t).st.drives = standings t.st.drives := by
  simp only [positionFaulted]
  split
  -- In LOADING-MAP and in SPARING the running limit decides what the fault does.
  case h_8 => split <;> simp
  case h_9 => split <;> simp
  all_goals simp

@[simp] theorem doubtBlock_drives (a : Active) : (s.doubtBlock a).drives = s.drives := by
  unfold State.doubtBlock
  split
  · split <;> rfl
  · rfl

@[simp] theorem keepMarkField_drives (w : Work) : (s.keepMarkField w).drives = s.drives := by
  unfold State.keepMarkField; split <;> rfl

@[simp] theorem writeFaulted_standings : standings (writeFaulted d t).st.drives = standings t.st.drives := by
  simp only [writeFaulted]
  split
  · split
    · split
      · split <;> simp
      · simp
    · simp
  · simp

/-! ## Follow-ups -/

@[simp] theorem dispatchTo_drives (e : Entry) (i : Fin 9) (p : Package) : (s.dispatchTo e i p).drives = s.drives := rfl

@[simp] theorem countBypass_drives (l : List EntryRef) : (s.countBypass l).drives = s.drives := rfl

@[simp] theorem dispatchEntry_standings (e : Entry) : standings (s.dispatchEntry d e).drives = standings s.drives := by
  simp [State.dispatchEntry]

@[simp] theorem choose_standings : standings (s.choose d).drives = standings s.drives := by
  unfold State.choose
  split
  · split <;> simp
  · simp

@[simp] theorem offer_standings : standings (offer d t).st.drives = standings t.st.drives := by
  unfold offer
  split
  · split
    · split
      · simp
      · split <;> simp
    · simp
  · rfl

@[simp] theorem passThrough_drives (p : Port) : (passThrough p d t).st.drives = t.st.drives := by
  unfold passThrough
  split
  · rfl
  · split
    · split <;> rfl
    · rfl

@[simp] theorem imageDispatch_drives : s.imageDispatch.drives = s.drives := by
  unfold State.imageDispatch
  split
  · rfl
  · split
    · split <;> rfl
    · rfl

@[simp] theorem imageFreed_standings : standings (imageFreed t).st.drives = standings t.st.drives := by
  unfold imageFreed; split <;> simp

/-- Every follow-up keeps the standing items. -/
@[simp] theorem runTask_standings (x : Task) : standings (runTask x t).st.drives = standings t.st.drives := by
  cases x <;> simp [runTask]

@[simp] theorem settle_standings (n : Nat) : standings (settle n t).st.drives = standings t.st.drives :=
  settle_induction (fun s => standings s.drives = standings t.st.drives)
    (fun x u h => (runTask_standings u x).trans h) n t rfl

@[simp] theorem start_standings : standings (Turn.start s).st.drives = standings s.drives :=
  settle_standings _ 1000

@[simp] theorem close_standings : standings t.close.drives = standings t.st.drives :=
  settle_standings t 1000

/-! ## The unit's own steps and port reset -/

@[simp] theorem grantNext_standings : standings (grantNext t).st.drives = standings t.st.drives := by
  unfold grantNext; split <;> simp

@[simp] theorem takeAway_standings : standings (takeAway d t).st.drives = standings t.st.drives := by
  unfold takeAway
  split
  -- In CONNECTED and in RECALIBRATING it matters whether the drive's own request is in hand.
  case h_2 => split <;> simp
  case h_4 => split <;> simp
  all_goals simp

@[simp] theorem takeAwayImage_standings : standings (takeAwayImage t).st.drives = standings t.st.drives := by
  unfold takeAwayImage
  split
  · simp
  · split <;> simp

@[simp] theorem dueConnected_standings : standings (dueConnected t).st.drives = standings t.st.drives := by
  unfold dueConnected; split <;> simp

@[simp] theorem dropPort_drives (p : Port) : (s.dropPort p).drives = s.drives := rfl

@[simp] theorem entryTaken_standings (e : Entry) : standings (entryTaken e t).st.drives = standings t.st.drives := by
  simp only [entryTaken, Turn.push_st]
  split
  · split <;> simp
  · rfl

@[simp] theorem portResetTaken_standings (p : Port) :
    standings (portResetTaken p t).st.drives = standings t.st.drives := by
  simp [portResetTaken]

end

/-! ## Marks: the angular position of their own drive moves, and no holder -/

theorem sectorMarked_holders (d : DriveNo) (input : MarkInput) (t : Turn) :
    holders (sectorMarked d input t).st.drives = holders t.st.drives := by
  unfold sectorMarked
  split
  · rw [holders_of_standings _ _ (afterMark_standings _ _ _), Turn.upd_st, onDrive_holders,
      holders_of_standings _ _ (takeDue_standings d t)]
    exact fun _ => rfl
  · rfl

theorem indexMarked_holders (d : DriveNo) (input : MarkInput) (t : Turn) :
    holders (indexMarked d input t).st.drives = holders t.st.drives := by
  simp only [indexMarked]
  split
  · split
    · rfl
    · rw [holders_of_standings _ _ (offerDeferred_standings _ _), holders_of_standings _ _ (afterMark_standings _ _ _),
        Turn.upd_st, onDrive_holders, holders_of_standings _ _ (takeDue_standings d t)]
      exact fun _ => rfl
  · rfl

/-! ## Commands (R98) -/

/-- The effect of a command leaves every reservation holder. -/
def KeepsHolders (f : Turn → Turn) : Prop := ∀ t, holders (f t).st.drives = holders t.st.drives

theorem keepsHolders_of_standings (f : Turn → Turn) (h : ∀ t, standings (f t).st.drives = standings t.st.drives) :
    KeepsHolders f := fun t => holders_of_standings _ _ (h t)

/-- The follow-ups that a command takes before and after its effect change no holder. -/
theorem sameHolders_of_complete (f : Turn → Turn) (s t : State) (hf : KeepsHolders f) (h : complete f s = .next t) :
    SameHolders s t := by
  obtain rfl : (f (Turn.start s)).close = t := by simpa [complete] using h
  refine sameHolders_of_holders _ _ ?_
  calc holders s.drives
      = holders (Turn.start s).st.drives := (holders_of_standings _ _ (start_standings s)).symm
    _ = holders (f (Turn.start s)).st.drives := (hf _).symm
    _ = holders (f (Turn.start s)).close.drives := (holders_of_standings _ _ (close_standings _)).symm

/-- Port reset, the events of drives and limits, and the unit's own steps each have an effect that keeps the holders. -/
theorem exec_event_keepsHolders (c : Instr) (h : isEventOrStep c = true) :
    ∃ f, (∀ s, exec c s = complete f s) ∧ KeepsHolders f := by
  have keeps {f : Turn → Turn} (hexec : ∀ s, exec c s = complete f s)
      (hf : ∀ t, standings (f t).st.drives = standings t.st.drives) :
      ∃ f, (∀ s, exec c s = complete f s) ∧ KeepsHolders f := ⟨f, hexec, keepsHolders_of_standings f hf⟩
  cases c with
  | portReset p => exact keeps (fun _ => rfl) fun t => portResetTaken_standings t p
  | readyRising d => exact keeps (fun _ => rfl) (readyRises_standings d)
  | readyFalling d => exact keeps (fun _ => rfl) (readyFalls_standings d)
  | positioned d cyl => exact keeps (fun _ => rfl) fun t => positioned_standings d t cyl
  | positionFault d => exact keeps (fun _ => rfl) (positionFaulted_standings d)
  | writeFault d => exact keeps (fun _ => rfl) (writeFaulted_standings d)
  | sectorMark d input => exact ⟨_, fun _ => rfl, sectorMarked_holders d input⟩
  | indexMark d input => exact ⟨_, fun _ => rfl, indexMarked_holders d input⟩
  | seekTimeout d => exact keeps (fun _ => rfl) (seekTimedOut_standings d)
  | recalibrationTimeout d => exact keeps (fun _ => rfl) (recalibrationTimedOut_standings d)
  | windowExpiry d => exact keeps (f := fun t => t.upd fun s => s.expireWindow d) (fun _ => rfl) fun t => by simp
  | linkTimeout => exact keeps (fun _ => rfl) linkTimedOut_standings
  | imageServiceStall => exact keeps (fun _ => rfl) fun t => by simp
  | arbiterGrant => exact keeps (fun _ => rfl) grantNext_standings
  | exchangeOut => exact keeps (fun _ => rfl) exchangeOutNow_standings
  | mapBufferTaken => exact keeps (f := fun t => t.upd State.bufferNext) (fun _ => rfl) fun t => by simp
  | mapLoadEnd d => exact keeps (fun _ => rfl) (mapLoadEnd_standings d)
  | mapWriteEnd d => exact keeps (fun _ => rfl) (mapWriteEnd_standings d)
  | sparingReadEnd d => exact keeps (fun _ => rfl) (sparingReadEnd_standings d)
  | sparingWriteVerifyEnd d => exact keeps (fun _ => rfl) (sparingWriteVerifyEnd_standings d)
  | sparingMarkEnd d => exact keeps (fun _ => rfl) (sparingMarkEnd_standings d)
  | _ => cases h

/-- Settles O7: each of these commands, with its follow-ups, keeps the holders. -/
theorem reservationsOutlastEventsAndPortReset : Obligations.ReservationsOutlastEventsAndPortReset := by
  intro c s t hc ht
  obtain ⟨f, hexec, hf⟩ := exec_event_keepsHolders c hc
  exact sameHolders_of_complete f s t hf ((hexec s).symm.trans ht)

end Sys2Proof.Machine.StandingItems

/-! SUPPORT. Proofs about Path Control: the empty unit after power-on reset, the arbiter's grants, exchange-in and
exchange-out. -/

namespace Sys2Proof.Machine.PathControl

/-! ## Power-on reset -/

theorem exec_powerOnReset (b : Straps) (s : State) : exec (.powerOnReset b) s = .next (s.powerOnReset b) := rfl

/-- A recording that is cut off can change the media, and the index of the free values with them. -/
theorem cutRecording_frame (s : State) :
    s.cutRecording = { s with media := s.cutRecording.media, freeIndex := s.cutRecording.freeIndex } := by
  unfold State.cutRecording
  split
  · split
    · split <;> rfl
    · rfl
  · rfl

theorem cutRecording_of_not_connected (s : State) (h : s.active = none) : s.cutRecording = s := by
  simp only [State.cutRecording, h]

theorem powerOnReset_pending (b : Straps) (s : State) : (s.powerOnReset b).pending = s.pending :=
  (congrArg State.pending (cutRecording_frame s) :)

theorem powerOnReset_media (b : Straps) (s : State) (h : s.active = none) : (s.powerOnReset b).media = s.media :=
  (congrArg State.media (cutRecording_of_not_connected s h) :)

theorem powerOnReset_slot (b : Straps) (s : State) (i : Fin 9) : (s.powerOnReset b).slot i = none := by
  simp [State.powerOnReset, State.powerOn, State.slot]

theorem powerOnReset_work (b : Straps) (s : State) (d : DriveNo) : (s.powerOnReset b).work d = none := by
  simp [State.powerOnReset, State.powerOn, State.work]

theorem powerOnReset_map (b : Straps) (s : State) (d : DriveNo) : (s.powerOnReset b).map d = DriveMap.powerOn := by
  simp [State.powerOnReset, State.powerOn, State.map]

/-- Settles O11: the vectors hold one value at every place, and only a recording in progress touches the media. -/
theorem powerOnResetEmptiesTheUnit : Obligations.PowerOnResetEmptiesTheUnit := by
  intro b s
  exact ⟨s.powerOnReset b, exec_powerOnReset b s, rfl, rfl, powerOnReset_slot b s, rfl, rfl,
    ⟨rfl, rfl, rfl, rfl, rfl, rfl, rfl⟩, fun d => ⟨powerOnReset_work b s d, powerOnReset_map b s d⟩, ⟨rfl, rfl⟩,
    rfl, rfl, rfl, ⟨rfl, rfl⟩, rfl, powerOnReset_pending b s, powerOnReset_media b s⟩

/-! ## The rotation of the arbiter (R116) -/

/-- The place of requester `i` in the rotating order after the last-granted pointer. -/
def rotationPlace (last i : Fin 9) : Nat := (i.val + 8 - last.val) % 9

theorem rotation_length (last : Fin 9) : (rotation last).length = 9 := by simp [rotation]

theorem rotation_getElem_val (last : Fin 9) (k : Nat) (h : k < (rotation last).length) :
    ((rotation last)[k]).val = (last.val + 1 + k) % 9 := by simp [rotation]

/-- A requester at a place of the rotation has that place. -/
theorem rotationPlace_getElem (last : Fin 9) (k : Nat) (h : k < (rotation last).length) :
    rotationPlace last (rotation last)[k] = k := by
  have hlast := last.isLt
  rw [rotationPlace, rotation_getElem_val]
  rw [rotation_length] at h
  omega

theorem rotationPlace_lt (last i : Fin 9) : rotationPlace last i < (rotation last).length := by
  rw [rotation_length]; exact Nat.mod_lt _ (by omega)

/-- Every requester stands at its place of the rotation. -/
theorem rotation_getElem_place (last i : Fin 9) :
    (rotation last)[rotationPlace last i]'(rotationPlace_lt last i) = i := by
  have hlast := last.isLt
  have hi := i.isLt
  apply Fin.ext
  rw [rotation_getElem_val, rotationPlace]
  omega

theorem mem_rotation (last i : Fin 9) : i ∈ rotation last :=
  rotation_getElem_place last i ▸ List.getElem_mem _

/-- The first requester of the rotation that a test passes: no other that passes comes before it. -/
theorem rotationPlace_le_of_find (last i : Fin 9) (f : Fin 9 → Bool) (h : (rotation last).find? f = some i) (j : Fin 9)
    (hj : f j = true) : rotationPlace last i ≤ rotationPlace last j := by
  obtain ⟨-, k, hk, rfl, hbefore⟩ := List.find?_eq_some_iff_getElem.1 h
  rw [rotationPlace_getElem]
  refine Nat.le_of_not_lt fun hlt => ?_
  have hnot := hbefore (rotationPlace last j) hlt
  rw [rotation_getElem_place, hj] at hnot
  exact absurd hnot (by decide)

theorem nextGrant_of_free (s : State) (h : s.pathFree = true) : s.nextGrant =
    (rotation s.arbiter.lastGranted).find? fun i => s.arbiter.pendingSet[i] && !s.masked i := by
  rw [State.nextGrant, if_pos h]

theorem pathFree_of_nextGrant (s : State) (i : Fin 9) (h : s.nextGrant = some i) : s.pathFree = true := by
  cases hfree : s.pathFree with
  | true => rfl
  | false =>
    simp only [State.nextGrant, hfree, Bool.false_eq_true, if_false] at h
    exact nomatch h

/-- Settles O41: the grant is the first requester of the rotation that is pending and unmasked, and every requester is
in the rotation. -/
theorem grantFollowsRotation : Obligations.GrantFollowsRotation := by
  intro s
  refine ⟨fun i h => ?_, fun hfree ⟨j, hpending, hunmasked⟩ => ?_⟩
  · have hfree := pathFree_of_nextGrant s i h
    rw [nextGrant_of_free s hfree] at h
    have hi : s.arbiter.pendingSet[i] = true ∧ s.masked i = false := by simpa using List.find?_some h
    exact ⟨hfree, hi.1, hi.2, fun j hpending hunmasked =>
      rotationPlace_le_of_find _ i _ h j (by simp only [hpending, hunmasked]; rfl)⟩
  · rw [nextGrant_of_free s hfree, ← Option.isSome_iff_exists, List.find?_isSome]
    exact ⟨j, mem_rotation _ j, by simp only [hpending, hunmasked]; rfl⟩

/-! ## Grants (R103) -/

theorem exec_arbiterGrant (s : State) : exec .arbiterGrant s = complete grantNext s := rfl

/-- A grant that leaves no follow-up due is all that the command does. -/
theorem exec_arbiterGrant_of_next (s : State) (i : Fin 9) (hf : s.followUps = []) (h : s.nextGrant = some i)
    (hdone : ((s.sending []).grant i).followUps = []) :
    exec .arbiterGrant s = .next ((s.sending []).grant i) := by
  have hnext : (s.sending []).nextGrant = some i := h
  rw [exec_arbiterGrant, complete_of_settled _ s hf]
  simp only [grantNext, hnext, Turn.upd, Turn.close_nil _ hdone]

/-- The unit with drive `d`'s requester granted and its window disarmed, its context not connected yet. -/
def requesterGranted (d : DriveNo) (s : State) : State :=
  (s.arbiterGrants (driveSlot d)).onWindow d fun w => { w with state := .disarmed }

theorem requesterGranted_window (d k : DriveNo) (s : State) : (requesterGranted d s).window k =
    if k = d then { s.window d with state := .disarmed } else s.window k := by
  simp only [eq_comm (a := k)]
  exact State.onWindow_window _ d k _

theorem grant_of_work (s : State) (d : DriveNo) (w : Work) (h : s.work d = some w) : s.grant (driveSlot d) =
    { requesterGranted d s with
      active := some (activeOfWork d w), dataPath := dataPathAtGrant w.step 0 .active } := by
  have hw : (requesterGranted d s).work d = some w := h
  simp only [requesterGranted] at hw
  have hd : (driveSlot d).val < 8 := d.isLt
  have hself : (⟨(driveSlot d).val, hd⟩ : DriveNo) = d := rfl
  simp only [State.grant, dif_pos hd, hself, hw, requesterGranted]

/-- The unit with drive `d` CONNECTED for package `p`, the Active Context and the Data Path made of it (R99, R103). -/
def packageConnected (d : DriveNo) (p : Package) (s : State) : State :=
  { s.onDrive d fun r => { r with state := .connected } with
    active := some (activeOfPackage p (driveSlot d)), dataPath := dataPathAtGrant p.retryStep p.pacing .active }

theorem packageConnected_drive (d k : DriveNo) (p : Package) (s : State) : (packageConnected d p s).drive k =
    if k = d then { s.drive d with state := .connected } else s.drive k := by
  simp only [eq_comm (a := k)]
  exact State.onDrive_drive s d k fun r => { r with state := .connected }

theorem grant_of_package (s : State) (d : DriveNo) (p : Package) (hw : s.work d = none)
    (hp : s.slot (driveSlot d) = some p) : 
    s.grant (driveSlot d) = packageConnected d p ((requesterGranted d s).openConnection p) := by
  have hwork : (requesterGranted d s).work d = none := hw
  have hslot : (requesterGranted d s).slot (driveSlot d) = some p := hp
  simp only [requesterGranted] at hwork hslot
  have hd : (driveSlot d).val < 8 := d.isLt
  have hself : (⟨(driveSlot d).val, hd⟩ : DriveNo) = d := rfl
  simp only [State.grant, dif_pos hd, hself, hwork, hslot, requesterGranted]
  rfl

theorem openConnection_frame (s : State) (p : Package) :
    s.openConnection p = { s with ports := (s.openConnection p).ports } := by
  unfold State.openConnection
  split <;> rfl

/-- The link is in DATA outside a verify pass (R66, R119). -/
theorem openConnection_port (s : State) (p : Package) (q : Port) : (s.openConnection p).port q =
    if q = p.request.port ∧ p.verify = false then { s.port q with link := .data } else s.port q := by
  unfold State.openConnection
  by_cases hv : p.verify = true
  · simp [hv]
  · by_cases hq : q = p.request.port
    · subst hq; simp [hv]
    · simp [hv, hq, State.onPort_port, Ne.symm hq]

/-- Settles O42: the requester's slot or its work gives the Active Context; a package's drive becomes CONNECTED and its
link opens. -/
theorem grantConnectsContext : Obligations.GrantConnectsContext := by
  intro s d hf hnext granted
  refine ⟨fun p hw hp hd => ?_, fun w hw => ?_⟩
  · have hframe := openConnection_frame (requesterGranted d (s.sending [])) p
    have hport := openConnection_port (requesterGranted d (s.sending [])) p
    have hgrant := grant_of_package (s.sending []) d p hw hp
    generalize (requesterGranted d (s.sending [])).openConnection p = u at hframe hport hgrant
    have hexec : exec .arbiterGrant s = .next _ :=
      exec_arbiterGrant_of_next s (driveSlot d) hf hnext (by rw [hgrant, hframe]; exact hf)
    refine ⟨_, activeOfPackage p (driveSlot d), hexec, ?_⟩
    rw [hgrant]
    refine ⟨⟨fun k => ?_, ?_, rfl, rfl, rfl, ?_⟩, rfl, ?_, rfl, hd, rfl, rfl, rfl, rfl, rfl, rfl, rfl, fun k => ?_,
      hport⟩
    · rw [hframe]; exact requesterGranted_window d k (s.sending [])
    · rw [hframe]; rfl
    · rw [hframe]; rfl
    · rw [hframe]; rfl
    · rw [packageConnected_drive, hframe]; rfl
  · have hgrant := grant_of_work (s.sending []) d w hw
    have hexec : exec .arbiterGrant s = .next _ :=
      exec_arbiterGrant_of_next s (driveSlot d) hf hnext (by rw [hgrant]; exact hf)
    refine ⟨_, activeOfWork d w, hexec, ?_⟩
    rw [hgrant]
    exact ⟨⟨fun k => requesterGranted_window d k (s.sending []), rfl, rfl, rfl, rfl, rfl⟩, rfl, rfl, rfl, rfl, rfl, rfl,
      rfl, rfl, rfl⟩

/-! ## What is due at the connected context -/

theorem timeoutDue_of_few_losses (s : State) (h : s.dataPath.pacing < 16) : s.timeoutDue = false := by
  have hfew : ¬ 16 ≤ s.dataPath.pacing := by omega
  simp [State.timeoutDue, hfew]

theorem exchangeOutNow_of_few_losses (t : Turn) (h : t.st.dataPath.pacing < 16) :
    exchangeOutNow t = takeExchangeOut t := by
  simp [exchangeOutNow, timeoutDue_of_few_losses t.st h]

theorem takeExchangeOut_of_not_due (t : Turn) (h : t.st.exchangeOutDue = false) : takeExchangeOut t = t := by
  simp [takeExchangeOut, h]

theorem exchangeOutDue_of_staying (s : State) (h : ∀ a, s.active = some a → a.leaving = none) :
    s.exchangeOutDue = false := by
  unfold State.exchangeOutDue
  split
  case h_1 a ha => simp [h a ha]
  case h_2 => rfl

/-- A host context is to leave the path, and on a read the ring has been carried (R107–R109). -/
theorem exchangeOutDue_of_host (s : State) (a : Active) (p : Package) (i : Fin 9) (why : Leaving)
    (ha : s.active = some a) (hc : a.conn = .host p i) (habandoned : a.abandoned = false)
    (hl : a.leaving = some why) (hwhy : why ≠ .ended)
    (hr : p.kind = .readBlocks → s.dataPath.ring = [] ∧ s.dataPath.port = .idle) : s.exchangeOutDue = true := by
  have hcarried : (p.kind ≠ .readBlocks || (s.dataPath.ring.isEmpty && s.dataPath.port = .idle)) = true := by
    by_cases hk : p.kind = .readBlocks
    · obtain ⟨hring, hport⟩ := hr hk
      simp [hring, hport]
    · simp [hk]
  simp only [State.exchangeOutDue, ha, habandoned, hl, hc, hcarried]
  cases why with
  | ended => exact absurd rfl hwhy
  | _ => rfl

/-- No stall, no LINK-TIMEOUT, no exchange-out and no end of work is due at the drive. -/
theorem takeDue_of_nothing_due (d : DriveNo) (t : Turn) (hstall : t.st.stallDue = false)
    (hpacing : t.st.dataPath.pacing < 16) (hout : t.st.exchangeOutDue = false)
    (hw : ∀ w, t.st.work d = some w → w.result = none) : takeDue d t = t := by
  have himage : imageStall t = t := by simp [imageStall, hstall]
  have htimeout : linkTimedOut t = t := by simp [linkTimedOut, timeoutDue_of_few_losses t.st hpacing]
  simp only [takeDue, himage, htimeout, exchangeOutNow_of_few_losses t hpacing, takeExchangeOut_of_not_due t hout,
    ite_self, anyWorkEnd_none d t hw]

theorem driveSlot_ne_imageSlot (d : DriveNo) : driveSlot d ≠ imageSlot := fun h =>
  absurd (congrArg Fin.val h) (Nat.ne_of_lt d.isLt)

theorem stallDue_of_drive_context (s : State) (a : Active) (p : Package) (d : DriveNo) (ha : s.active = some a)
    (hc : a.conn = .host p (driveSlot d)) : s.stallDue = false := by
  simp [State.stallDue, ha, Active.isImage, hc, driveSlot_ne_imageSlot]

theorem stallDue_of_few_marks (s : State) (h : s.dataPath.sinceFinish < 96) : s.stallDue = false := by
  have hfew : ¬ 96 ≤ s.dataPath.sinceFinish := by omega
  unfold State.stallDue
  split <;> simp [hfew]

/-! ## Exchange-in (R103, R147) -/

theorem stepOffset_eq (step : Nat) : stepOffset step =
    if step = 4 ∨ step = 6 then .plus else if step = 5 ∨ step = 7 then .minus else .none := by
  unfold stepOffset
  split <;> simp_all

theorem openAtMark_of_not_waiting (s : State) (d : DriveNo) (h : (s.window d).state ≠ .waiting) :
    s.openAtMark d = s := by
  simp [State.openAtMark, h]

/-- The unit one sector further, the mark counted in the Data Path, as a connected drive's mark leaves it. -/
def markCounted (d : DriveNo) (s : State) : State :=
  (Positioning.turned d (s.sending [])).onDataPath fun p => { p with sinceFinish := p.sinceFinish + 1 }

theorem markCounted_drive (d : DriveNo) (s : State) :
    (markCounted d s).drive d = { s.drive d with angle := ((s.drive d).angle + 1) % 96 } := by
  simp [markCounted, Positioning.turned]

/-- A mark at which nothing else is due, of the drive whose context is granted: exchange-in begins. -/
theorem exec_sectorMark_granted (s u : State) (d : DriveNo) (x : MarkInput) (a : Active) (hf : s.followUps = [])
    (ha : s.active = some a) (hd : a.drive = d) (hphase : a.phase = .granted) (hleaving : a.leaving = none)
    (hstall : s.stallDue = false) (hpacing : s.dataPath.pacing < 16)
    (hw : ∀ w, s.work d = some w → w.result = none) (hi : (s.drive d).installed = true)
    (hwindow : (s.window d).state = .disarmed) (hfree : s.arbiter.freeAt ≠ some d)
    (hu : (markCounted d s).exchangeIn a = u) (hdone : u.followUps = []) : exec (.sectorMark d x) s = .next u := by
  let marked := Positioning.turned d (s.sending [])
  have hdue : takeDue d ⟨s.sending [], []⟩ = ⟨s.sending [], []⟩ :=
    takeDue_of_nothing_due d _ hstall hpacing
      (exchangeOutDue_of_staying _ fun b hb => by
        obtain rfl : a = b := Option.some.inj (ha.symm.trans hb)
        exact hleaving) hw
  have hstate : (marked.window d).state = .disarmed := hwindow
  have hwindows : ((marked.freePath d).expireWindow d).openAtMark d = marked := by
    rw [Positioning.freePath_of_not_waiting marked d hfree,
      Positioning.expireWindow_of_not_pending marked d (by rw [hstate]; decide),
      openAtMark_of_not_waiting marked d (by rw [hstate]; decide)]
  have hmark : sectorMarked d x ⟨s.sending [], []⟩ = ⟨u, []⟩ := by
    have hactive : marked.active = some a := ha
    rw [sectorMarked, if_pos (show ((s.sending []).drive d).installed = true from hi), hdue]
    simp only [afterMark, Turn.upd]
    rw [← Positioning.turned, hwindows]
    simp only [dataPathMark, hactive, hd, if_true, hphase, Turn.upd, ← hu]
    rfl
  rw [Positioning.exec_sectorMark, complete_of_settled _ s hf, hmark, Turn.close_nil _ hdone]

theorem takeHeld_of_no_step (s : State) (a : Active) (p : Package) (i : Fin 9) (ha : s.active = some a)
    (hc : a.conn = .host p i) (hheld : p.heldStep = none) : s.takeHeld = s := by
  simp only [State.takeHeld, ha, hc, hheld]

/-- The unit with the connected context in its exchange-in period. -/
def entering (s : State) : State := s.onActive fun a => { a with phase := .exchangeIn }

section
variable {s : State} {a : Active} {p : Package} {i : Fin 9}

/-- Exchange-in of a context with a physical track: HEAD SELECT where the head differs, then OFFSET. -/
theorem exchangeIn_of_physical {track : Track} (ha : s.active = some a) (hc : a.conn = .host p i)
    (hheld : p.heldStep = none) (hlost : s.imageDriveLost a = false) (ht : a.diskPhysical = some track) :
    s.exchangeIn a = (if (s.drive a.drive).head = track.head then entering s
      else (entering s).headSelect a.drive track.head).sendOffset a.drive (stepOffset s.dataPath.step) := by
  have hlost' : (entering s).imageDriveLost a = false := hlost
  have hactive : (entering s).active = some { a with phase := .exchangeIn } := by simp [entering, ha]
  have hhead : (entering s).drive a.drive = s.drive a.drive := rfl
  rw [entering] at hlost' hhead
  simp only [State.exchangeIn, hlost', ht, hhead, Bool.false_eq_true, if_false]
  split <;> exact takeHeld_of_no_step _ _ p i hactive hc hheld

/-- Exchange-in of image service, which has no physical track: OFFSET alone. -/
theorem exchangeIn_of_image (ha : s.active = some a) (hc : a.conn = .host p i) (hheld : p.heldStep = none)
    (hlost : s.imageDriveLost a = false) (ht : a.diskPhysical = none) :
    s.exchangeIn a = (entering s).sendOffset a.drive (stepOffset s.dataPath.step) := by
  have hlost' : (entering s).imageDriveLost a = false := hlost
  have hactive : (entering s).active = some { a with phase := .exchangeIn } := by simp [entering, ha]
  rw [entering] at hlost'
  simp only [State.exchangeIn, hlost', ht, Bool.false_eq_true, if_false]
  exact takeHeld_of_no_step _ _ p i hactive hc hheld

end

theorem imageDriveLost_of_drive_context (s : State) (a : Active) (p : Package) (d : DriveNo)
    (hc : a.conn = .host p (driveSlot d)) : s.imageDriveLost a = false := by
  simp [State.imageDriveLost, Active.isImage, hc, driveSlot_ne_imageSlot]

/-- The unit with the exchange-in period of drive `d`'s context begun by a mark: `selects` and OFFSET sent, the head and
the offset recorded. -/
def exchangeInBegun (d : DriveNo) (a : Active) (selects : List Output) (head : Nat) (s : State) : State :=
  State.onDrive { s with
    active := some { a with phase := .exchangeIn }
    dataPath := { s.dataPath with sinceFinish := s.dataPath.sinceFinish + 1 }
    out := selects ++ [.bus d (.offset (stepOffset s.dataPath.step))] } d fun r =>
      { r with angle := (r.angle + 1) % 96, head := head, offset := stepOffset s.dataPath.step }

/-- OFFSET alone leaves the head as it was. -/
theorem sendOffset_markCounted (s : State) (d : DriveNo) (a : Active) (ha : s.active = some a) :
    (entering (markCounted d s)).sendOffset d (stepOffset s.dataPath.step) =
      exchangeInBegun d a [] (s.drive d).head s := by
  simp [entering, markCounted, Positioning.turned, State.sendOffset_eq, exchangeInBegun, State.onDrive, State.onActive,
    State.onDataPath, State.sending, ha, State.drive]

theorem sendOffset_headSelect_markCounted (s : State) (d : DriveNo) (a : Active) (head : Nat) (ha : s.active = some a) :
    ((entering (markCounted d s)).headSelect d head).sendOffset d (stepOffset s.dataPath.step) =
      exchangeInBegun d a [.bus d (.headSelect head)] head s := by
  simp [entering, markCounted, Positioning.turned, State.sendOffset_eq, State.headSelect_eq, exchangeInBegun,
    State.onDrive, State.onActive, State.onDataPath, State.sending, ha]

/-- Settles O43: nothing else is due at the mark, and the physical track says whether the head differs. -/
theorem exchangeInSelectsHeadAndOffset : Obligations.ExchangeInSelectsHeadAndOffset := by
  intro s d x a p hf ha hd hphase hleaving hheld hpacing hi hwindow hfree step offset begins
  have hbegins : ∀ selects head, begins selects head = exchangeInBegun d a selects head s := fun selects head => by
    simp only [begins, offset, step, ← stepOffset_eq]
    rfl
  have hcounted : (markCounted d s).active = some a := ha
  have hhead : ((markCounted d s).drive a.drive).head = (s.drive d).head := by
    rw [hd, markCounted_drive]
  refine ⟨fun track hc ht hw => ?_, fun hc ht hmarks hw hoffline hfaulted => ?_⟩
  · rw [hbegins]
    refine exec_sectorMark_granted s _ d x a hf ha hd hphase hleaving (stallDue_of_drive_context s a p d ha hc) hpacing
      (by simp [hw]) hi hwindow hfree ?_ hf
    rw [exchangeIn_of_physical hcounted hc hheld (imageDriveLost_of_drive_context _ a p d hc) ht, hhead, hd]
    split
    case isTrue hsame => rw [← hsame]; exact sendOffset_markCounted s d a ha
    case isFalse => exact sendOffset_headSelect_markCounted s d a track.head ha
  · have hlost : (markCounted d s).imageDriveLost a = false := by
      simp [State.imageDriveLost, hd, markCounted_drive, hoffline, hfaulted]
    rw [hbegins]
    refine exec_sectorMark_granted s _ d x a hf ha hd hphase hleaving (stallDue_of_few_marks s hmarks) hpacing hw hi
      hwindow hfree ?_ hf
    rw [exchangeIn_of_image hcounted hc hheld hlost ht, hd]
    exact sendOffset_markCounted s d a ha

/-! ## Leaving the path (R105, R139) -/

theorem exec_exchangeOut (s : State) : exec .exchangeOut s = complete exchangeOutNow s := rfl

/-- The OFFSET that brings drive `d`'s heads back to NONE, where they are not (R149). -/
def centring (d : DriveNo) (s : State) : List Output :=
  if (s.drive d).offset = .none then [] else [.bus d (.offset .none)]

theorem offset_none_eq (s : State) (d : DriveNo) : s.offset d .none =
    State.onDrive { s with out := s.out ++ centring d s } d fun r => { r with offset := .none } := by
  unfold State.offset centring
  split
  case isTrue h =>
    have hself : ({ s.drives[d] with offset := .none } : DriveRecord) = s.drives[d] := by
      rw [← show s.drives[d].offset = .none from h]
    simp only [State.onDrive, hself, List.append_nil]
    simp
  case isFalse => rfl

theorem endConnection_port (s : State) (p q : Port) : (s.endConnection p).port q =
    if q = p ∧ (s.port q).link = .data then { s.port q with link := .idle } else s.port q := by
  unfold State.endConnection
  by_cases hq : q = p
  · subst hq
    split <;> simp [*]
  · split <;> simp [hq, State.onPort_port, Ne.symm hq]

/-- What an exchange-out at drive `d` leaves, `link` the port of its context: nothing connected, the Data Path reset,
the data connection ended, the path to free at the drive's next mark. The drive's own record, window and slot are left
open. -/
structure LeftPath (d : DriveNo) (link : Port) (s t : State) : Prop where
  frame : t = { s with
    drives := t.drives, windows := t.windows, ports := t.ports, slots := t.slots, active := none
    arbiter := t.arbiter, dataPath := t.dataPath, out := t.out }
  ports : ∀ q, t.port q =
    if q = link ∧ (s.port q).link = .data then { s.port q with link := .idle } else s.port q
  slots : ∀ i, i ≠ driveSlot d → t.slot i = s.slot i
  ring : t.dataPath.ring = []
  disk : t.dataPath.disk = .halted
  others : ∀ j, j ≠ d → t.drive j = s.drive j ∧ t.window j = s.window j
  holder : t.arbiter.holder = s.arbiter.holder
  freeAt : t.arbiter.freeAt = some d

section
variable {d : DriveNo} {link : Port} {s t u : State}

/-- Later changes of drive `d`'s record, window and slot, of the pending set and of what is sent out. -/
theorem LeftPath.trans (h : LeftPath d link s t)
    (hframe : u = { t with
      drives := u.drives, windows := u.windows, slots := u.slots, arbiter := u.arbiter, out := u.out })
    (hslots : ∀ i, i ≠ driveSlot d → u.slot i = t.slot i)
    (hothers : ∀ j, j ≠ d → u.drive j = t.drive j ∧ u.window j = t.window j)
    (hholder : u.arbiter.holder = t.arbiter.holder) (hfree : u.arbiter.freeAt = t.arbiter.freeAt) :
    LeftPath d link s u where
  frame := by rw [hframe, h.frame]
  ports q := by rw [hframe]; exact h.ports q
  slots i hi := (hslots i hi).trans (h.slots i hi)
  ring := by rw [hframe]; exact h.ring
  disk := by rw [hframe]; exact h.disk
  others j hj := ⟨(hothers j hj).1.trans (h.others j hj).1, (hothers j hj).2.trans (h.others j hj).2⟩
  holder := hholder.trans h.holder
  freeAt := hfree.trans h.freeAt

/-- The connected package, which the exchange-out takes with it, is not looked at again. -/
theorem LeftPath.of_onPackage {f : Package → Package} (h : LeftPath d link (s.onPackage f) t) : LeftPath d link s t :=
  ⟨h.frame, h.ports, h.slots, h.ring, h.disk, h.others, h.holder, h.freeAt⟩

theorem LeftPath.followUps (h : LeftPath d link s t) : t.followUps = s.followUps := by rw [h.frame]

theorem LeftPath.linkClass (h : LeftPath d link s t) (q : Port) : (t.port q).linkClass = (s.port q).linkClass := by
  rw [h.ports]
  split <;> rfl

end

/-- The unit as an exchange-out leaves it with package `k` in drive `d`'s slot, before the drive goes on. -/
def exchangedOut (d : DriveNo) (link : Port) (k : Package) (s : State) : State :=
  (((s.setSlot (driveSlot d) (some k)).endConnection link).dropActive d false).offset d .none

section
variable (d : DriveNo) (link : Port) (k : Package) (s : State)

theorem exchangedOut_eq : exchangedOut d link k s = State.onDrive { s with
    ports := (s.endConnection link).ports
    slots := s.slots.set (driveSlot d) (some k)
    active := none
    arbiter := { s.arbiter with freeAt := some d }
    dataPath := DataPath.empty
    out := s.out ++ centring d s } d fun r => { r with offset := .none } := by
  have hend : (s.setSlot (driveSlot d) (some k)).endConnection link =
      { s.setSlot (driveSlot d) (some k) with ports := (s.endConnection link).ports } := by
    unfold State.endConnection
    have hport : (s.setSlot (driveSlot d) (some k)).port link = s.port link := rfl
    rw [hport]
    split <;> rfl
  rw [exchangedOut, offset_none_eq, hend]
  rfl

theorem exchangedOut_leftPath : LeftPath d link s (exchangedOut d link k s) := by
  rw [exchangedOut_eq]
  exact ⟨rfl, endConnection_port s link, fun i hi => (State.setSlot_slot s (driveSlot d) i _).trans (if_neg hi.symm),
    rfl, rfl, fun j hj => ⟨(State.onDrive_drive _ d j _).trans (if_neg hj.symm), rfl⟩, rfl, rfl⟩

theorem exchangedOut_drive : (exchangedOut d link k s).drive d = { s.drive d with offset := .none } := by
  rw [exchangedOut_eq, State.onDrive_drive_self]
  rfl

theorem exchangedOut_slot : (exchangedOut d link k s).slot (driveSlot d) = some k := by
  rw [exchangedOut_eq]
  exact State.setSlot_slot_self s (driveSlot d) (some k)

theorem exchangedOut_windows : (exchangedOut d link k s).windows = s.windows := by rw [exchangedOut_eq]; rfl

theorem exchangedOut_out : (exchangedOut d link k s).out = s.out ++ centring d s := by rw [exchangedOut_eq]; rfl

end

/-! ## The drive goes on after an exchange-out (R107–R109) -/

theorem hostLead_eq (kind : RequestKind) (verify : Bool) (c : LinkClass) : hostLead kind verify c =
    if kind = .writeBlocks ∧ verify = false then 2 + blockTime c else 2 := by
  simp [hostLead]

theorem armWindow_path (s : State) (d : DriveNo) (b l : Nat) (h : Bool) :
    (s.armWindow d b l h).arbiter.holder = s.arbiter.holder ∧
      (s.armWindow d b l h).arbiter.freeAt = s.arbiter.freeAt := by
  rw [State.armWindow_eq]
  split <;> exact ⟨rfl, rfl⟩

theorem opened_iff_pending (c : Prop) [Decidable c] : (if c then ArmingState.pending else .waiting) = .pending ↔ c := by
  split <;> simp [*]

/-- What a drive entering ORIENTING with package `k` in its slot changes, no missed block boundary to be counted: its
record and its window, which is armed for the package's next block (R8, R57). -/
structure Oriented (d : DriveNo) (k : Package) (s t : State) : Prop where
  frame : t = { s with drives := t.drives, windows := t.windows, arbiter := t.arbiter }
  drive : ∀ j, t.drive j = if d = j then { s.drive d with state := .orienting } else s.drive j
  window : ∀ j, t.window j =
    if d = j then
      ⟨if (s.drive d).rotationKnown = true ∧
          (k.flags.holdPath = true ∨ (s.drive d).angle = windowSector k.nextBlock (s.leadOf k)) then .pending
        else .waiting, k.nextBlock, windowSector k.nextBlock (s.leadOf k), k.flags.holdPath⟩
    else s.window j
  holder : t.arbiter.holder = s.arbiter.holder
  freeAt : t.arbiter.freeAt = s.arbiter.freeAt

theorem orient_oriented (s : State) (d : DriveNo) (k : Package) (hk : s.slot (driveSlot d) = some k)
    (hb : (s.drive d).boundaryMissed = false) : Oriented d k s (s.orient d) := by
  let u := s.onDrive d fun r => { r with state := .orienting }
  have hdrive : u.drive d = { s.drive d with state := .orienting } := State.onDrive_drive_self s d _
  have hcounted : Positioning.boundaryCounted d u = u := by simp [Positioning.boundaryCounted, hdrive, hb]
  have harm : s.orient d = u.armWindow d k.nextBlock (s.leadOf k) k.flags.holdPath := by
    rw [State.orient, Positioning.armHost_of_package u d k hk, hcounted]
    rfl
  have hframe := MapOperations.armWindow_frame u d k.nextBlock (s.leadOf k) k.flags.holdPath
  have hwindow := fun j => MapOperations.armWindow_window u d j k.nextBlock (s.leadOf k) k.flags.holdPath
  obtain ⟨hholder, hfree⟩ := armWindow_path u d k.nextBlock (s.leadOf k) k.flags.holdPath
  rw [← harm] at hframe hwindow hholder hfree
  refine ⟨hframe.trans ?_, fun j => ?_, fun j => (hwindow j).trans ?_, hholder, hfree⟩
  · rw [hframe]; rfl
  · rw [hframe]; exact State.onDrive_drive s d j fun r => { r with state := .orienting }
  · rw [hdrive]; rfl

theorem LeftPath.orient {d : DriveNo} {link : Port} {k : Package} {s t u : State} (h : LeftPath d link s t)
    (ho : Oriented d k t u) : LeftPath d link s u :=
  h.trans (by rw [ho.frame]) (fun i _ => by rw [ho.frame]; rfl)
    (fun j hj => ⟨(ho.drive j).trans (if_neg hj.symm), (ho.window j).trans (if_neg hj.symm)⟩) ho.holder ho.freeAt

/-- The unit with a retry wait at drive `d` counted in the package of its slot (R108). -/
def waitCounted (d : DriveNo) (why : Leaving) (s : State) : State :=
  if why = .retryWait then s.onSlot (driveSlot d) Package.loseRevolution else s

theorem waitCounted_frame (d : DriveNo) (why : Leaving) (s : State) :
    waitCounted d why s = { s with slots := (waitCounted d why s).slots } := by
  unfold waitCounted
  split <;> rfl

theorem waitCounted_drive (d k : DriveNo) (why : Leaving) (s : State) : (waitCounted d why s).drive k = s.drive k := by
  rw [waitCounted_frame]; rfl

theorem waitCounted_out (d : DriveNo) (why : Leaving) (s : State) : (waitCounted d why s).out = s.out := by
  rw [waitCounted_frame]

theorem waitCounted_slot (d : DriveNo) (why : Leaving) (s : State) (k : Package) (hk : s.slot (driveSlot d) = some k) :
    (waitCounted d why s).slot (driveSlot d) =
      some { k with revsLost := if why = .retryWait then min (k.revsLost + 1) 255 else k.revsLost } := by
  unfold waitCounted
  split
  · refine (State.setSlot_slot_self s (driveSlot d) _).trans ?_
    rw [hk]
    rfl
  · exact hk

theorem waitCounted_slot_other (d : DriveNo) (why : Leaving) (s : State) (i : Fin 9) (hi : i ≠ driveSlot d) :
    (waitCounted d why s).slot i = s.slot i := by
  unfold waitCounted
  split
  · exact (State.setSlot_slot s (driveSlot d) i _).trans (if_neg hi.symm)
  · rfl

theorem LeftPath.waitCounted {d : DriveNo} {link : Port} {s t : State} (why : Leaving) (h : LeftPath d link s t) :
    LeftPath d link s (waitCounted d why t) := by
  have hframe := waitCounted_frame d why t
  have hslots := waitCounted_slot_other d why t
  generalize PathControl.waitCounted d why t = u at hframe hslots
  exact h.trans (by rw [hframe]) hslots (fun j _ => by rw [hframe]; exact ⟨rfl, rfl⟩) (by rw [hframe]) (by rw [hframe])

/-- After a pacing loss or a retry wait the drive is rearmed (R108, R109). -/
theorem resume_rearms (s : State) (d : DriveNo) (k : Package) (why : Leaving) (hk : s.slot (driveSlot d) = some k)
    (hwhy : why = .pacingLoss ∨ why = .retryWait) : s.resume d why = (waitCounted d why s).orient d := by
  rcases hwhy with rfl | rfl <;> simp only [State.resume, hk] <;> rfl

/-- After a relocation the drive is sent to the translated track (R107). -/
theorem resume_relocates (s : State) (d : DriveNo) (k : Package) (track : Track) (hk : s.slot (driveSlot d) = some k)
    (ht : k.physical = some track) : s.resume d .relocation = s.sendTo d track := by
  simp only [State.resume, hk, ht, Option.getD_some]

theorem LeftPath.sendTo {d : DriveNo} {link : Port} {k : Package} {track : Track} {s t : State}
    (h : LeftPath d link s t) (hk : t.slot (driveSlot d) = some k) (ht : track.cyl ≠ (t.drive d).cylinder) :
    LeftPath d link s (t.sendTo d track) := by
  obtain ⟨hsent, -, -, -, -, harbiter, -⟩ := Positioning.sendTo_seeks t d track k hk ht
  exact h.trans hsent.frame hsent.slots (fun j hj => ⟨hsent.drives j hj, hsent.windows j hj⟩) (by rw [harbiter])
    (by rw [harbiter])

/-- The record of a drive sent away from its cylinder (R8). -/
theorem sendTo_drive_of_away (s : State) (d : DriveNo) (track : Track) (ht : track.cyl ≠ (s.drive d).cylinder) :
    (s.sendTo d track).drive d =
      { s.drive d with
        state := .seeking, head := track.head, offset := .none, target := some track.cyl, timer := .ms120 } := by
  rw [Positioning.sendTo_of_away s d track ht, State.onDrive_drive_self, MapOperations.sentTo, State.onDrive_drive_self]
  rfl

/-- The packages stay where they are as a drive is sent away from its cylinder. -/
theorem sendTo_slot_of_away (s : State) (d : DriveNo) (track : Track) (i : Fin 9)
    (ht : track.cyl ≠ (s.drive d).cylinder) : (s.sendTo d track).slot i = s.slot i := by
  rw [Positioning.sendTo_of_away s d track ht]
  rfl

/-! ## Exchange-out (R105) -/

/-- The package as exchange-out copies it back where the disk side has come to its next block: the pacing count and the
ladder's step return to it (R131). -/
def copiedBack (dp : DataPath) (p : Package) : Package := { p with pacing := dp.pacing, retryStep := dp.step }

theorem writeBack_of_caught_up (a : Active) (dp : DataPath) (p : Package) (h : a.diskLeft = p.count) :
    writeBack a dp p = copiedBack dp p := by
  simp [writeBack, copiedBack, h]

theorem disconnect_offset_of_host (s : State) (d : DriveNo) (a : Active) (p : Package) (ha : s.active = some a)
    (hd : a.drive = d) (hc : a.conn = .host p (driveSlot d)) (hcount : a.diskLeft = p.count) :
    s.disconnect.offset d .none = exchangedOut d p.request.port (copiedBack s.dataPath p) s := by
  simp only [State.disconnect, ha, hc, hd, writeBack_of_caught_up a s.dataPath p hcount, exchangedOut]

/-- The connected package with the disk side's translation, which a relocation takes (R107). -/
def relocated (a : Active) (p : Package) : Package :=
  { p with physical := a.diskPhysical, throughAlt := a.diskThroughAlt }

/-- The exchange-out of a host context that no LINK-TIMEOUT comes before. -/
theorem exec_exchangeOut_of_due (s u : State) (a : Active) (p : Package) (i : Fin 9) (hf : s.followUps = [])
    (ha : s.active = some a) (hc : a.conn = .host p i) (hpacing : s.dataPath.pacing < 16)
    (hdue : s.exchangeOutDue = true)
    (hu : (((if a.leaving = some .relocation then (s.sending []).onPackage (relocated a)
      else s.sending []).disconnect.offset a.drive .none).resume a.drive (a.leaving.getD .ended)) = u)
    (hdone : u.followUps = []) : exec .exchangeOut s = .next u := by
  have hactive : (s.sending []).active = some a := ha
  have hdue' : (s.sending []).exchangeOutDue = true := hdue
  have hturn : exchangeOutNow ⟨s.sending [], []⟩ = ⟨u, []⟩ := by
    rw [exchangeOutNow_of_few_losses _ hpacing]
    simp only [takeExchangeOut, hdue', if_true, hactive, hc, Turn.upd]
    exact congrArg (Turn.mk · []) hu
  rw [exec_exchangeOut, complete_of_settled _ s hf, hturn, Turn.close_nil _ hdone]

theorem exec_exchangeOut_of_not_connected (s : State) (hf : s.followUps = []) (h : s.active = none) :
    exec .exchangeOut s = .next (s.sending []) := by
  have hturn : exchangeOutNow ⟨s.sending [], []⟩ = ⟨s.sending [], []⟩ := by
    have hdue : (s.sending []).exchangeOutDue = false :=
      exchangeOutDue_of_staying _ fun a ha => absurd (h.symm.trans ha) (by simp)
    rw [exchangeOutNow, takeExchangeOut_of_not_due ⟨s.sending [], []⟩ hdue, ite_self]
  rw [exec_exchangeOut, complete_of_settled _ s hf, hturn, Turn.close_nil (s.sending []) hf]

/-- The connected host context of drive `d` is at its disconnection point, its disk side at the package's next block; no
LINK-TIMEOUT is due, and no missed block boundary is still to be counted. -/
structure AtDisconnection (s : State) (d : DriveNo) (a : Active) (p : Package) : Prop where
  followUps : s.followUps = []
  active : s.active = some a
  drive : a.drive = d
  conn : a.conn = .host p (driveSlot d)
  abandoned : a.abandoned = false
  carried : p.kind = .readBlocks → s.dataPath.ring = [] ∧ s.dataPath.port = .idle
  count : a.diskLeft = p.count
  pacing : s.dataPath.pacing < 16
  boundary : (s.drive d).boundaryMissed = false

/-- The unit after the exchange-out of package `p`, its retry wait counted, as drive `d` is about to be rearmed. -/
def rearming (d : DriveNo) (why : Leaving) (p : Package) (s : State) : State :=
  waitCounted d why (exchangedOut d p.request.port (copiedBack s.dataPath p) (s.sending []))

/-- The package that a rearmed drive has in its slot. -/
def rearmedPackage (why : Leaving) (dp : DataPath) (p : Package) : Package :=
  { copiedBack dp p with revsLost := if why = .retryWait then min (p.revsLost + 1) 255 else p.revsLost }

section
variable (d : DriveNo) (why : Leaving) (p : Package) (s : State)

theorem rearming_leftPath : LeftPath d p.request.port (s.sending []) (rearming d why p s) :=
  (exchangedOut_leftPath d _ _ _).waitCounted why

theorem rearming_slot : (rearming d why p s).slot (driveSlot d) = some (rearmedPackage why s.dataPath p) :=
  waitCounted_slot d why _ _ (exchangedOut_slot d _ _ _)

theorem rearming_drive : (rearming d why p s).drive d = { s.drive d with offset := .none } := by
  rw [rearming, waitCounted_drive, exchangedOut_drive, State.sending_drive']

theorem rearming_out : (rearming d why p s).out = centring d s := by
  rw [rearming, waitCounted_out, exchangedOut_out]
  rfl

theorem rearming_leadOf : (rearming d why p s).leadOf (rearmedPackage why s.dataPath p) = s.leadOf p := by
  simp only [State.leadOf, (rearming_leftPath d why p s).linkClass]
  rfl

end

/-- The unit after a relocation's exchange-out, as drive `d` is about to be sent to the translated track. -/
def relocating (d : DriveNo) (a : Active) (p : Package) (s : State) : State :=
  exchangedOut d p.request.port (copiedBack s.dataPath (relocated a p)) ((s.sending []).onPackage (relocated a))

theorem relocating_leftPath (d : DriveNo) (a : Active) (p : Package) (s : State) :
    LeftPath d p.request.port (s.sending []) (relocating d a p s) :=
  (exchangedOut_leftPath d _ _ _).of_onPackage

theorem relocating_slot (d : DriveNo) (a : Active) (p : Package) (s : State) :
    (relocating d a p s).slot (driveSlot d) = some (copiedBack s.dataPath (relocated a p)) :=
  exchangedOut_slot d _ _ _

theorem relocating_drive (d : DriveNo) (a : Active) (p : Package) (s : State) :
    (relocating d a p s).drive d = { s.drive d with offset := .none } := by
  rw [relocating, exchangedOut_drive, State.onPackage_drive', State.sending_drive']

theorem relocating_windows (d : DriveNo) (a : Active) (p : Package) (s : State) :
    (relocating d a p s).windows = s.windows := by
  rw [relocating, exchangedOut_windows]; rfl

theorem relocating_out (d : DriveNo) (a : Active) (p : Package) (s : State) :
    (relocating d a p s).out = centring d s := by
  rw [relocating, exchangedOut_out]; rfl

section
variable {s : State} {d : DriveNo} {a : Active} {p : Package}

/-- After a pacing loss or a retry wait the drive is ORIENTING, its window armed for the next block. -/
theorem AtDisconnection.exec_rearms (h : AtDisconnection s d a p) {why : Leaving} (hleaving : a.leaving = some why)
    (hwhy : why = .pacingLoss ∨ why = .retryWait) :
    exec .exchangeOut s = .next ((rearming d why p s).orient d) ∧
      Oriented d (rearmedPackage why s.dataPath p) (rearming d why p s) ((rearming d why p s).orient d) := by
  have horiented := orient_oriented _ d _ (rearming_slot d why p s) (by rw [rearming_drive]; exact h.boundary)
  have hgone := (rearming_leftPath d why p s).orient horiented
  have hended : why ≠ .ended := by rcases hwhy with rfl | rfl <;> decide
  have hstays : ¬ a.leaving = some .relocation := by rw [hleaving]; rcases hwhy with rfl | rfl <;> decide
  refine ⟨exec_exchangeOut_of_due s _ a p _ h.followUps h.active h.conn h.pacing
    (exchangeOutDue_of_host s a p _ why h.active h.conn h.abandoned hleaving hended h.carried) ?_
    (hgone.followUps.trans h.followUps), horiented⟩
  rw [if_neg hstays, h.drive, disconnect_offset_of_host (s.sending []) d a p h.active h.drive h.conn h.count, hleaving]
  exact resume_rearms _ d _ why (exchangedOut_slot d _ _ _) hwhy

/-- After a relocation the drive is sent to the translated track. -/
theorem AtDisconnection.exec_relocates (h : AtDisconnection s d a p) (hleaving : a.leaving = some .relocation)
    {track : Track} (ht : a.diskPhysical = some track) (haway : track.cyl ≠ ((relocating d a p s).drive d).cylinder) :
    exec .exchangeOut s = .next ((relocating d a p s).sendTo d track) := by
  have hgone := (relocating_leftPath d a p s).sendTo (relocating_slot d a p s) haway
  refine exec_exchangeOut_of_due s _ a p _ h.followUps h.active h.conn h.pacing
    (exchangeOutDue_of_host s a p _ _ h.active h.conn h.abandoned hleaving (by decide) h.carried) ?_
    (hgone.followUps.trans h.followUps)
  have hactive : ((s.sending []).onPackage (relocated a)).active =
      some { a with conn := .host (relocated a p) (driveSlot d) } := by
    simp [h.active, h.conn]
  have hout :=
    disconnect_offset_of_host ((s.sending []).onPackage (relocated a)) d _ (relocated a p) hactive h.drive rfl h.count
  rw [if_pos hleaving, h.drive, hout, hleaving]
  exact resume_relocates _ d _ track (relocating_slot d a p s) ht

end

/-- Settles O46: the context leaves the path in one way (`LeftPath`), and why it leaves says how its drive goes on. -/
theorem exchangeOutRearmsWrite : Obligations.ExchangeOutRearmsWrite := by
  intro s d a p hf
  refine ⟨exec_exchangeOut_of_not_connected s hf, ?_⟩
  intro ha hd hc habandoned hread hcount hpacing hboundary centred back leaves
  have h : AtDisconnection s d a p := ⟨hf, ha, hd, hc, habandoned, hread, hcount, hpacing, hboundary⟩
  have hleaves : ∀ t, LeftPath d p.request.port (s.sending []) t → leaves t := fun t ht =>
    ⟨ht.frame, ht.ports, ht.slots, ht.ring, ht.disk, ht.others, ht.holder, ht.freeAt⟩
  refine ⟨?_, fun track hleaving ht hcyl => ?_⟩
  · intro hcases lead sector
    obtain ⟨why, hleaving, hwhy⟩ : ∃ why, a.leaving = some why ∧ (why = .pacingLoss ∨ why = .retryWait) :=
      hcases.elim (fun h => ⟨_, h, .inl rfl⟩) fun h => ⟨_, h, .inr rfl⟩
    obtain ⟨hexec, horiented⟩ := h.exec_rearms hleaving hwhy
    have hgone := (rearming_leftPath d why p s).orient horiented
    refine ⟨_, hexec, hleaves _ hgone, ?_⟩
    generalize (rearming d why p s).orient d = t at horiented
    have hlead : s.leadOf p = lead := hostLead_eq _ _ _
    have hwindow := (horiented.window d).trans (if_pos rfl)
    rw [rearming_leadOf, hlead, rearming_drive] at hwindow
    refine ⟨?_, ?_, ?_, ?_, ?_, ?_, ?_, ?_⟩
    · rw [horiented.frame]; exact rearming_out d why p s
    · rw [horiented.frame]
      simp only [hleaving, Option.some.injEq]
      exact rearming_slot d why p s
    · rw [horiented.drive, if_pos rfl, rearming_drive]
    · rw [hwindow]; rfl
    · rw [hwindow]; rfl
    · rw [hwindow]; rfl
    · rw [hwindow]; exact opened_iff_pending _
    · rw [hwindow]
      split <;> simp
  · have hslot := relocating_slot d a p s
    have haway : track.cyl ≠ ((relocating d a p s).drive d).cylinder := by rw [relocating_drive]; exact hcyl
    have hgone := (relocating_leftPath d a p s).sendTo hslot haway
    obtain ⟨-, -, -, -, hwindows, -, hout⟩ := Positioning.sendTo_seeks _ d track _ hslot haway
    refine ⟨_, h.exec_relocates hleaving ht haway, hleaves _ hgone, ?_, ?_, ?_, ?_⟩
    · rw [hout, relocating_out]; rfl
    · rw [sendTo_slot_of_away _ d track _ haway, hslot]
      simp only [copiedBack, relocated, ht, back]
    · rw [sendTo_drive_of_away _ d track haway, relocating_drive]
    · exact congrArg (·[d]) (hwindows.trans (relocating_windows d a p s))

end Sys2Proof.Machine.PathControl

/-! SUPPORT. Proofs about the data path: the blocks of a connected read, pacing losses and the LINK-TIMEOUT. -/

namespace Sys2Proof.Machine.StagingRing

/-! ## The commands' arms -/

theorem exec_linkTimeout (s : State) : exec .linkTimeout s = complete linkTimedOut s := rfl

theorem exec_imageServiceStall (s : State) : exec .imageServiceStall s = complete imageStall s := rfl

/-! ## Pacing losses of image service (R138) -/

theorem stallDue_of_image_context (s : State) (a : Active) (p : Package) (ha : s.active = some a)
    (hc : a.conn = .host p imageSlot) (hmarks : 96 ≤ s.dataPath.sinceFinish) : s.stallDue = true := by
  simp [State.stallDue, ha, Active.isImage, hc, hmarks]

/-- One pacing loss of a connected host context, in its package and in the Data Path (R131). -/
theorem losePacing_of_host (s : State) (a : Active) (p : Package) (i : Fin 9) (ha : s.active = some a)
    (hc : a.conn = .host p i) :
    s.losePacing = { s with
      active := some { a with conn := .host { p with revsLost := min (p.revsLost + 1) 255 } i }
      dataPath := { s.dataPath with pacing := min (s.dataPath.pacing + 1) 16, finishedSinceLoss := false } } := by
  simp only [State.losePacing, State.onPackage, State.onActive, State.onDataPath, ha, Option.map_some, hc,
    Connected.mapPackage_host]
  rfl

/-- Settles O48: the count of marks alone says whether the stall is due, and a stall is one pacing loss. -/
theorem imageServiceStallCountsLoss : Obligations.ImageServiceStallCountsLoss := by
  intro s a p hf ha hc
  rw [exec_imageServiceStall, complete_of_settled _ s hf]
  refine ⟨fun hmarks => ?_, fun hmarks => ?_⟩
  · have hnot : (s.sending []).stallDue = false := PathControl.stallDue_of_few_marks _ hmarks
    rw [imageStall, hnot]
    exact congrArg _ (Turn.close_nil _ hf)
  · have hdue : (s.sending []).stallDue = true := stallDue_of_image_context _ a p ha hc hmarks
    rw [imageStall, hdue, if_pos rfl]
    simp only [Turn.upd, losePacing_of_host (s.sending []) a p imageSlot ha hc]
    exact congrArg _ (Turn.close_nil _ hf)

/-! ## Completion of a drive's connected request (R106) -/

theorem noteCheck_frame (s : State) (d : DriveNo) (i : Fin 9) (track : Option Track) (r : CompletionRecord) :
    s.noteCheck d i track r = { s with maps := (s.noteCheck d i track r).maps } := by
  unfold State.noteCheck
  split
  · split <;> rfl
  · rfl

theorem endConnection_frame (s : State) (p : Port) :
    s.endConnection p = { s with ports := (s.endConnection p).ports } := by
  unfold State.endConnection
  split <;> rfl

/-- The unit with record `r` of package `p`, from drive `d`'s slot, handed over: in the Status Queue and, of a CHECK, in
the drive's last check; the entry and the slot are free. -/
def recordHandedOver (d : DriveNo) (p : Package) (track : Option Track) (r : CompletionRecord) (s : State) : State :=
  (((s.appendRecord p.request.port r).removeEntry p.request).setSlot (driveSlot d) none).noteCheck p.drive (driveSlot d)
    track r

/-- The unit once drive `d`'s connected request has completed with record `r`: record handed over, path left, drive
IDLE with its heads centred. -/
def requestCompleted (d : DriveNo) (p : Package) (track : Option Track) (r : CompletionRecord) (s : State) : State :=
  MapOperations.atRest d
    ((((recordHandedOver d p track r s).endConnection p.request.port).dropActive d false).offset d .none)

/-- What completing the connected request of a drive's slot does, and what it makes due; there is no visit whose outcome
is handed over. -/
theorem completeConnected_of_drive_context (e : Ending) (t : Turn) (d : DriveNo) (a : Active) (p : Package)
    (he : e.dropsVisit = false) (ha : t.st.active = some a) (hd : a.drive = d) (hc : a.conn = .host p (driveSlot d))
    (hvisit : p.visitTrack = none) (htodo : t.todo = []) :
    completeConnected e t = ⟨requestCompleted d p a.diskPhysical (buildRecord e p) t.st,
      insertTask (.offer d) [.passThrough p.request.port p.drive, .offer p.drive, .imageCheck]⟩ := by
  have hslot := PathControl.driveSlot_ne_imageSlot d
  have hready : ¬ e = .notReady := by rintro rfl; exact nomatch he
  have hnone : endVisit p.drive none p.visitResult p.flags.sparePermit t = t := rfl
  simp only [completeConnected, ha, hc, completeRequest, hd, he, hslot, hready, hvisit, hnone, Bool.false_eq_true,
    if_false, Bool.or_false, decide_false, MapOperations.enterIdle_eq, Turn.upd, Turn.push, htodo]
  rfl

section
variable (d : DriveNo) (p : Package) (track : Option Track) (r : CompletionRecord) (s : State)

theorem recordHandedOver_eq : recordHandedOver d p track r s = { s with
    ports := (s.appendRecord p.request.port r).ports
    queue := s.queue.filter fun e => e.ref ≠ p.request
    slots := s.slots.set (driveSlot d) none
    maps := (recordHandedOver d p track r s).maps } :=
  noteCheck_frame _ _ _ _ _

theorem requestCompleted_eq : requestCompleted d p track r s = State.onDrive { s with
    ports := ((recordHandedOver d p track r s).endConnection p.request.port).ports
    queue := s.queue.filter fun e => e.ref ≠ p.request
    slots := s.slots.set (driveSlot d) none
    active := none
    arbiter := { s.arbiter with freeAt := some d }
    dataPath := DataPath.empty
    maps := (recordHandedOver d p track r s).maps
    out := s.out ++ PathControl.centring d s } d fun x => { MapOperations.restingRecord x with offset := .none } := by
  have hrecord := recordHandedOver_eq d p track r s
  generalize (recordHandedOver d p track r s).maps = maps at hrecord ⊢
  rw [requestCompleted, endConnection_frame, PathControl.offset_none_eq, hrecord]
  simp only [MapOperations.atRest, State.dropActive, State.onDrive, State.setSlot, Fin.getElem_fin, Vector.set_set,
    Vector.getElem_set_self]
  rfl

/-- The unit's frame, as the only entry of the Request Queue leaves it. -/
theorem requestCompleted_frame (hempty : (s.queue.filter fun e => e.ref ≠ p.request) = []) :
    requestCompleted d p track r s = { s with
      drives := (requestCompleted d p track r s).drives, ports := (requestCompleted d p track r s).ports, queue := []
      slots := (requestCompleted d p track r s).slots, active := none
      arbiter := (requestCompleted d p track r s).arbiter, dataPath := (requestCompleted d p track r s).dataPath
      maps := (requestCompleted d p track r s).maps, out := (requestCompleted d p track r s).out } := by
  rw [requestCompleted_eq, hempty]
  rfl

theorem requestCompleted_drive (k : DriveNo) : (requestCompleted d p track r s).drive k =
    if d = k then { MapOperations.restingRecord (s.drive d) with offset := .none } else s.drive k := by
  rw [requestCompleted_eq]
  exact State.onDrive_drive _ d k _

theorem requestCompleted_slot : (requestCompleted d p track r s).slot (driveSlot d) = none := by
  rw [requestCompleted_eq]
  exact State.setSlot_slot_self s (driveSlot d) none

/-- The completion record joins the Status Queue of the request's port, and its data connection ends. -/
theorem requestCompleted_port (hlink : (s.port p.request.port).link = .data) (q : Port) :
    (requestCompleted d p track r s).port q =
      if q = p.request.port then
        { s.port q with link := .idle, status := (s.port q).status ++ [r], statusPending := true }
      else s.port q := by
  have hport : (requestCompleted d p track r s).port q =
      ((recordHandedOver d p track r s).endConnection p.request.port).port q := by
    rw [requestCompleted_eq]; rfl
  have hhanded : (recordHandedOver d p track r s).port q = (s.appendRecord p.request.port r).port q := by
    rw [recordHandedOver_eq]; rfl
  rw [hport, PathControl.endConnection_port, hhanded, State.appendRecord, State.onPort_port]
  by_cases hq : q = p.request.port
  · subst hq
    simp [PortUnit.refreshPending, hlink]
  · simp [hq, Ne.symm hq]

end

/-- The follow-ups of a completion that leaves the Request Queue and the Sparing Queue empty. -/
theorem close_of_empty_queues (s : State) (d : DriveNo) (q : Port) (l : List Task) (hf : s.followUps = [])
    (hl : l.length ≤ 1000) (hqueue : s.queue = []) (ho : s.orders = []) (hr : (s.drive d).rotationKnown = true)
    (h : ∀ x ∈ l, x = .passThrough q d ∨ x = .offer d ∨ x = .imageCheck) : (Turn.mk s l).close = s :=
  MapOperations.close_of_idle_tasks s l hf hl fun x hx rest => by
    rcases h x hx with rfl | rfl | rfl
    · exact passThrough_none q d ⟨s, rest⟩ (by simp [State.oldest, hqueue])
    · exact MapOperations.offer_of_no_work d ⟨s, rest⟩ hqueue ho hr
    · exact congrArg (Turn.mk · rest) (MapOperations.imageDispatch_of_no_requests s hqueue)

/-! ## LINK-TIMEOUT (R131) -/

/-- The package of a request that ends with LINK-TIMEOUT. -/
def timedOut (p : Package) : Package := { p with conditions := addCondition .linkTimeout p.conditions }

theorem linkTimedOut_of_few_losses (t : Turn) (h : t.st.dataPath.pacing < 16) : linkTimedOut t = t := by
  simp [linkTimedOut, PathControl.timeoutDue_of_few_losses t.st h]

/-- The sixteenth loss of a context that no reset has taken away. -/
theorem linkTimedOut_of_connected (t : Turn) (a : Active) (ha : t.st.active = some a) (habandoned : a.abandoned = false)
    (hpacing : 16 ≤ t.st.dataPath.pacing) :
    linkTimedOut t = completeConnected .condition (t.upd fun s => s.onPackage timedOut) := by
  have hdue : t.st.timeoutDue = true := by simp [State.timeoutDue, ha, hpacing]
  simp only [linkTimedOut, hdue, if_true, ha, Option.any_some, habandoned, Bool.false_eq_true, if_false]
  rfl

/-- The record of a request without other conditions that ends with LINK-TIMEOUT (R177). -/
theorem buildRecord_timedOut (p : Package) (h : p.conditions = []) : buildRecord .condition (timedOut p) =
    ⟨p.request.tag, p.drive, p.kind, .check, [.linkTimeout], p.transferred, p.retries, p.revsLost,
      min p.relocated 4⟩ := by
  simp [buildRecord, recordOutcome, recordConditions, Ending.adds, timedOut, addCondition, h]

/-- Settles O47: the completion of the package with LINK-TIMEOUT added, after which no queue holds anything to do. -/
theorem linkTimeoutCompletesRequest : Obligations.LinkTimeoutCompletesRequest := by
  intro s d a p e hf
  refine ⟨fun hpacing => ?_, ?_⟩
  · rw [exec_linkTimeout, complete_of_settled _ s hf, linkTimedOut_of_few_losses _ hpacing]
    exact congrArg _ (Turn.close_nil _ hf)
  intro ha hd hc habandoned hpd hkind hconditions hvisit hpacing hrotation _ hqueue href horders _ _ hlink
  let base := (s.sending []).onPackage timedOut
  let b : Active := { a with conn := .host (timedOut p) (driveSlot d) }
  let r := buildRecord .condition (timedOut p)
  let u := requestCompleted d (timedOut p) a.diskPhysical r base
  have hport_e : e.port = p.request.port := congrArg EntryRef.port href
  have htag : e.request.tag = p.request.tag := congrArg EntryRef.tag href
  have hempty : (base.queue.filter fun x => x.ref ≠ p.request) = [] := by simp [base, hqueue, href]
  have hframe := requestCompleted_frame d (timedOut p) a.diskPhysical r base hempty
  have hparts := requestCompleted_eq d (timedOut p) a.diskPhysical r base
  have hdrive := requestCompleted_drive d (timedOut p) a.diskPhysical r base
  have hport := requestCompleted_port d (timedOut p) a.diskPhysical r base (hport_e ▸ hlink)
  have hturn : linkTimedOut ⟨s.sending [], []⟩ =
      ⟨u, [.passThrough p.request.port d, .offer d, .offer d, .imageCheck]⟩ := by
    have hactive : base.active = some b := by simp [base, b, ha, hc]
    rw [linkTimedOut_of_connected _ a ha habandoned hpacing,
      completeConnected_of_drive_context .condition _ d b (timedOut p) rfl hactive hd rfl hvisit rfl,
      show (timedOut p).drive = d from hpd]
    rfl
  have hexec : exec .linkTimeout s = .next u := by
    have hdone : u.followUps = [] := (congrArg State.followUps hframe).trans hf
    have hrotation_u : (u.drive d).rotationKnown = true := by
      rw [hdrive, if_pos rfl]; exact hrotation
    rw [exec_linkTimeout, complete_of_settled _ s hf, hturn,
      close_of_empty_queues u d p.request.port _ hdone (by simp) (congrArg State.queue hframe)
        ((congrArg State.orders hframe).trans horders) hrotation_u (by simp)]
  refine ⟨u, hexec, hframe, congrArg (fun v => v.dataPath.ring) hparts,
    requestCompleted_slot d (timedOut p) a.diskPhysical r base, congrArg State.arbiter hparts, ?_, fun j hj => ?_,
    fun q => ?_⟩
  · rw [hdrive, if_pos rfl]; rfl
  · rw [hdrive, if_neg hj.symm]; rfl
  · rw [hport, hport_e, htag, ← hkind, ← hpd, ← buildRecord_timedOut p hconditions]
    rfl

/-! ## A mark at a connected read (R122) -/

/-- A read of drive `d`'s own request is connected, ready and staying on the path, its disk side on `track`; nothing but
its blocks is due at the drive's next mark. -/
structure ReadReady (s : State) (d : DriveNo) (a : Active) (p : Package) (track : Track) : Prop where
  followUps : s.followUps = []
  active : s.active = some a
  drive : a.drive = d
  conn : a.conn = .host p (driveSlot d)
  phase : a.phase = .ready
  leaving : a.leaving = none
  abandoned : a.abandoned = false
  physical : a.diskPhysical = some track
  kind : p.kind = .readBlocks
  verify : p.verify = false
  pacing : s.dataPath.pacing < 16
  work : s.work d = none
  installed : (s.drive d).installed = true
  window : (s.window d).state = .disarmed
  freeAt : s.arbiter.freeAt ≠ some d

/-- A mark that finds nothing due at the drive, no window to open or expire and no path to free is taken by the Data Path
alone. -/
theorem exec_sectorMark_of_dataPathMark (s u : State) (d : DriveNo) (x : MarkInput) (hf : s.followUps = [])
    (hdue : takeDue d ⟨s.sending [], []⟩ = ⟨s.sending [], []⟩) (hi : (s.drive d).installed = true)
    (hwindow : (s.window d).state = .disarmed) (hfree : s.arbiter.freeAt ≠ some d)
    (hu : dataPathMark d x ⟨Positioning.turned d (s.sending []), []⟩ = ⟨u, []⟩) (hdone : u.followUps = []) :
    exec (.sectorMark d x) s = .next u := by
  let marked := Positioning.turned d (s.sending [])
  have hstate : (marked.window d).state = .disarmed := hwindow
  have hwindows : ((marked.freePath d).expireWindow d).openAtMark d = marked := by
    rw [Positioning.freePath_of_not_waiting marked d hfree,
      Positioning.expireWindow_of_not_pending marked d (by rw [hstate]; decide),
      PathControl.openAtMark_of_not_waiting marked d (by rw [hstate]; decide)]
  have hmark : sectorMarked d x ⟨s.sending [], []⟩ = ⟨u, []⟩ := by
    rw [sectorMarked, if_pos (show ((s.sending []).drive d).installed = true from hi), hdue]
    simp only [afterMark, Turn.upd]
    rw [← Positioning.turned, hwindows, hu]
  rw [Positioning.exec_sectorMark, complete_of_settled _ s hf, hmark, Turn.close_nil _ hdone]

/-- No exchange-out is due at a context that stays on the path. -/
theorem exchangeOutDue_of_not_leaving (s : State) (a : Active) (ha : s.active = some a) (hl : a.leaving = none) :
    s.exchangeOutDue = false :=
  PathControl.exchangeOutDue_of_staying s fun b hb => by
    obtain rfl : a = b := Option.some.inj (ha.symm.trans hb)
    exact hl

/-- A ready context's mark is the four stages of R122. -/
theorem ReadReady.exec_eq {s : State} {d : DriveNo} {a : Active} {p : Package} {track : Track}
    (h : ReadReady s d a p track) (x : MarkInput) (u : State)
    (hu : stages x ⟨PathControl.markCounted d s, []⟩ = ⟨u, []⟩) (hdone : u.followUps = []) :
    exec (.sectorMark d x) s = .next u := by
  have hdue : takeDue d ⟨s.sending [], []⟩ = ⟨s.sending [], []⟩ :=
    PathControl.takeDue_of_nothing_due d _ (PathControl.stallDue_of_drive_context _ a p d h.active h.conn) h.pacing
      (exchangeOutDue_of_not_leaving _ a h.active h.leaving) fun w hw => nomatch h.work.symm.trans hw
  refine exec_sectorMark_of_dataPathMark s u d x h.followUps hdue h.installed h.window h.freeAt ?_ hdone
  have hactive : (Positioning.turned d (s.sending [])).active = some a := h.active
  simp only [dataPathMark, hactive, h.drive, if_true, h.phase]
  exact hu

/-! ## The stages, case by case (R122) -/

section
variable {t : Turn} {a : Active} {p : Package} {i : Fin 9} (x : MarkInput)

theorem stageDiskEnd_of_no_block (ha : t.st.active = some a) (hb : a.blockMarks = none) : stageDiskEnd x t = t := by
  simp only [stageDiskEnd, ha, hb]

theorem stageDiskEnd_of_fourth_mark (ha : t.st.active = some a) (hc : a.conn = .host p i)
    (hb : a.blockMarks = some 3) (habandoned : a.abandoned = false) : stageDiskEnd x t = endHostBlock a p x t := by
  simp only [stageDiskEnd, ha, hb, hc, habandoned]
  rfl

theorem stagePortEnd_of_host (ha : t.st.active = some a) (hc : a.conn = .host p i) :
    stagePortEnd x t = endPortBlock a p x t := by
  simp only [stagePortEnd, ha, hc]

theorem stageDiskStart_of_no_start (ha : t.st.active = some a) (hs : t.st.blockStarts a = false) :
    stageDiskStart x t = t := by
  simp only [stageDiskStart, ha, hs, Bool.false_eq_true, if_false]

theorem stageDiskStart_of_host (ha : t.st.active = some a) (hc : a.conn = .host p i) (hs : t.st.blockStarts a = true)
    (hdisk : t.st.dataPath.disk ≠ .halted) : stageDiskStart x t = startHostBlock a p x t := by
  simp only [stageDiskStart, ha, hc, hs, hdisk, if_true, if_false]

theorem stagePortStart_of_host (ha : t.st.active = some a) (hc : a.conn = .host p i) (habandoned : a.abandoned = false)
    (hpacing : t.st.dataPath.pacing < 16) : stagePortStart t = beginPortBlock a p t := by
  simp [stagePortStart, ha, hc, habandoned, PathControl.timeoutDue_of_few_losses t.st hpacing]

theorem stageEnded_of_staying (ha : t.st.active = some a) (hl : a.leaving = none) : stageEnded t = t := by
  simp [stageEnded, ha, hl]

theorem closeDrained_of_staying (s : State) (ha : s.active = some a) (hl : a.leaving = none) : s.closeDrained = s := by
  simp only [State.closeDrained, ha, exchangeOutDue_of_not_leaving s a ha hl]
  split <;> rfl

/-- With the context staying on the path, the stages are the ends and starts of disk and port blocks. -/
theorem stages_of_staying {u : Turn} (hu : stagePortStart (stageDiskStart x (stagePortEnd x (stageDiskEnd x t))) = u)
    (ha : u.st.active = some a) (hl : a.leaving = none) : stages x t = u := by
  simp only [stages, hu, stageEnded_of_staying ha hl, Turn.upd, closeDrained_of_staying u.st ha hl]

/-! ## The port side (R124) -/

/-- The unit with the mark counted in the port block under way, if there is one. -/
def portMarked (s : State) : State := s.onDataPath fun y =>
  { y with portMarks := if y.port = .carrying then y.portMarks + 1 else y.portMarks }

theorem portMarked_of_not_carrying (s : State) (h : s.dataPath.port ≠ .carrying) : portMarked s = s := by
  simp only [portMarked, State.onDataPath, if_neg h]

theorem portMarked_of_carrying (s : State) (h : s.dataPath.port = .carrying) :
    portMarked s = s.onDataPath fun y => { y with portMarks := y.portMarks + 1 } := by
  simp only [portMarked, State.onDataPath, if_pos h]

/-- A mark at which no port block ends: its time is not over, or the host is not ready. -/
theorem endPortBlock_of_unfinished (h : t.st.dataPath.port = .carrying →
      t.st.dataPath.portMarks + 1 < blockTime (t.st.port p.request.port).linkClass ∨ x.hostReady = false) :
    endPortBlock a p x t = t.upd portMarked := by
  by_cases hport : t.st.dataPath.port = .carrying
  · have hgoes : ¬ (decide (blockTime (t.st.port p.request.port).linkClass ≤ t.st.dataPath.portMarks + 1) &&
        x.hostReady) = true := by
      rw [Bool.and_eq_true, decide_eq_true_eq]
      rintro ⟨hover, hready⟩
      rcases h hport with hearly | hlate
      · exact absurd hover (Nat.not_le_of_lt hearly)
      · exact nomatch hlate.symm.trans hready
    simp only [endPortBlock, if_pos hport, Turn.upd, portMarked_of_carrying t.st hport]
    exact if_neg hgoes
  · simp only [endPortBlock, if_neg hport, Turn.upd, portMarked_of_not_carrying t.st hport]

theorem isImage_of_drive_context {d : DriveNo} (hc : a.conn = .host p (driveSlot d)) : a.isImage = false := by
  simp [Active.isImage, hc, PathControl.driveSlot_ne_imageSlot]

/-- A read's port goes on with the block it carries, or waits for the block at the head of the ring. -/
theorem beginPortBlock_of_waiting (himage : a.isImage = false) (hk : p.kind = .readBlocks)
    (h : t.st.dataPath.port = .idle → ∃ r l, t.st.dataPath.ring = r :: l ∧ r.fill = .filling) :
    beginPortBlock a p t = t := by
  by_cases hport : t.st.dataPath.port = .idle
  · obtain ⟨r, l, hring, hfill⟩ := h hport
    simp [beginPortBlock, hport, himage, hk, drainNext, hring, hfill]
  · simp only [beginPortBlock, if_neg hport]

/-- The unit with the port carrying block `r`, which it has at the head of the ring. -/
def carryBegun (r : RingSlot) (s : State) : State :=
  (s.ringHead fun y => { y with fill := .draining }).portCarry r.number

/-- A read's port begins to carry a GOOD block at the head of the ring. -/
theorem beginPortBlock_of_good {r : RingSlot} {l : List RingSlot} (himage : a.isImage = false)
    (hk : p.kind = .readBlocks) (hport : t.st.dataPath.port = .idle) (hring : t.st.dataPath.ring = r :: l)
    (hfill : r.fill = .full) (hgood : r.status = .good) : beginPortBlock a p t = t.upd (carryBegun r) := by
  simp [beginPortBlock, hport, himage, hk, drainNext, hring, hfill, hgood, Turn.upd, carryBegun]

end

/-! ## A read block starts (R123, R143) -/

/-- The field of a NORMAL track with its own address, as manufacture gave it (R2), lets a track reached without an
alternate proceed. -/
theorem hostVerdict_of_normal (m : DriveMap) (writing : Bool) (a : Active) (track : Track)
    (halt : a.diskThroughAlt = false) : hostVerdict m writing a track
      ⟨⟨track.cyl, track.head, a.diskBlock, .normal, none, false⟩, .generated⟩ = .proceed none := by
  simp [hostVerdict, addressVerdict, fieldGood, checkAgrees, trackVerdict, DriveMap.lostAt, linkVerdict, halt]

/-- The unit with the block of a read in progress, in a new FILLING slot at the tail of the ring. -/
def blockTaken (a : Active) (p : Package) (track : Track) (s : State) : State :=
  (((s.onActive fun b => { b with grantPeriod := false }).onDataPath fun y =>
    { y with disk := .active, stopped := none }).beginBlock false none).ringPush (readSlot a p track .filling .good)

/-- A read block of the visited track starts, with an EMPTY slot and a field that lets it proceed. -/
theorem startHostBlock_of_proceeding (t : Turn) (a : Active) (p : Package) (track : Track) (x : MarkInput)
    (ht : a.diskPhysical = some track) (hretry : a.retryDue = false) (hk : p.kind = .readBlocks)
    (hverify : p.verify = false) (hvisit : p.visitTrack = some track) (hring : t.st.dataPath.ring.length < 24)
    (hx : x.field = none)
    (hfield : hostVerdict (t.st.map a.drive) false a track (t.st.recorded a.drive track a.diskBlock).field =
      .proceed none) : startHostBlock a p x t = t.upd (blockTaken a p track) := by
  have hretried : t.st.countRetryWait a = t.st := by simp [State.countRetryWait, hretry]
  have hpaced : paced a p t.st.dataPath = true := by simp [paced, hk, hring]
  have hfield' : hostVerdict (t.st.map a.drive) (p.kind = .writeBlocks && !p.verify) a track
      (t.st.recorded a.drive track a.diskBlock).field = .proceed none := by simpa [hk] using hfield
  have htaken : ∀ s : State, s.takeBlock a p track false none =
      (s.beginBlock false none).ringPush (readSlot a p track .filling .good) := fun s => by
    simp [State.takeBlock, hverify, hk]
  simp only [startHostBlock, ht, Turn.upd, hretried, State.onActive_dataPath, hpaced, if_true, visitBlock, hvisit, hx,
    Option.getD_none]
  refine (congrArg (fun v => hostField a p track v _) hfield').trans ?_
  simp only [hostField, Turn.upd, htaken]
  rfl

/-- Of the four stages of a mark only the start of the disk block finds something to do, beside the mark counted for the
port. -/
theorem stages_of_read_start {s : State} {d : DriveNo} {a : Active} {p : Package} {track : Track} (x : MarkInput)
    (ha : s.active = some a) (hc : a.conn = .host p (driveSlot d)) (hleaving : a.leaving = none)
    (habandoned : a.abandoned = false) (hblock : a.blockMarks = none) (hk : p.kind = .readBlocks)
    (hpacing : s.dataPath.pacing < 16) (hidle : s.dataPath.port = .idle → s.dataPath.ring = [])
    (hcarrying : s.dataPath.port = .carrying →
      s.dataPath.portMarks + 1 < blockTime (s.port p.request.port).linkClass ∨ x.hostReady = false)
    (hstarts : s.blockStarts a = true) (hdisk : s.dataPath.disk ≠ .halted)
    (hstart : startHostBlock a p x ⟨portMarked s, []⟩ = ⟨blockTaken a p track (portMarked s), []⟩) :
    stages x ⟨s, []⟩ = ⟨blockTaken a p track (portMarked s), []⟩ := by
  have hmarked : (portMarked s).active = some a := ha
  let b : Active := { a with grantPeriod := false, blockMarks := some 0, fieldFailed := false, rewrite := none }
  have htaken : (blockTaken a p track (portMarked s)).active = some b := by
    simp [blockTaken, State.beginBlock, State.ringPush, hmarked, b]
  have hwaits : stagePortStart ⟨blockTaken a p track (portMarked s), []⟩ =
      ⟨blockTaken a p track (portMarked s), []⟩ :=
    (stagePortStart_of_host (t := ⟨blockTaken a p track (portMarked s), []⟩) (a := b) htaken hc habandoned hpacing).trans <|
      beginPortBlock_of_waiting (a := b) (isImage_of_drive_context hc) hk fun hport =>
        ⟨readSlot a p track .filling .good, [], congrArg (· ++ _) (hidle hport), rfl⟩
  refine stages_of_staying x ?_ htaken hleaving
  calc stagePortStart (stageDiskStart x (stagePortEnd x (stageDiskEnd x ⟨s, []⟩)))
      = stagePortStart (stageDiskStart x (endPortBlock a p x ⟨s, []⟩)) := by
        rw [stageDiskEnd_of_no_block (t := ⟨s, []⟩) x ha hblock, stagePortEnd_of_host (t := ⟨s, []⟩) x ha hc]
    _ = stagePortStart (stageDiskStart x ⟨portMarked s, []⟩) := by rw [endPortBlock_of_unfinished x hcarrying]; rfl
    _ = stagePortStart ⟨blockTaken a p track (portMarked s), []⟩ := by
        rw [stageDiskStart_of_host (t := ⟨portMarked s, []⟩) x hmarked hc hstarts hdisk, hstart]
    _ = ⟨blockTaken a p track (portMarked s), []⟩ := hwaits

/-- Settles O44: the mark turns the drive, and the block that starts there takes its slot. -/
theorem readBlockTakesRingSlot : Obligations.ReadBlockTakesRingSlot := by
  intro s d x a p track hf ha hd hc hphase hleaving habandoned hblock hretry hleft ht halt hk hverify hvisit hpacing
    hdisk hring hidle hcarrying hw hi hrotation hangle hwindow hfree hx hfield
  have h : ReadReady s d a p track :=
    ⟨hf, ha, hd, hc, hphase, hleaving, habandoned, ht, hk, hverify, hpacing, hw, hi, hwindow, hfree⟩
  let m := PathControl.markCounted d s
  have hstarts : m.blockStarts a = true := by
    simp [State.blockStarts, m, hd, PathControl.markCounted_drive, hrotation, hangle, hblock, hleft, habandoned,
      isImage_of_drive_context hc]
  have hnothalted : m.dataPath.disk ≠ .halted := by
    rw [show m.dataPath.disk = _ from hdisk]; decide
  have hverdict : hostVerdict ((portMarked m).map a.drive) false a track
      ((portMarked m).recorded a.drive track a.diskBlock).field = .proceed none := by
    rw [hd, show ((portMarked m).recorded d track a.diskBlock).field = _ from hfield]
    exact hostVerdict_of_normal _ _ a track halt
  have hstages : stages x ⟨m, []⟩ = ⟨blockTaken a p track (portMarked m), []⟩ :=
    stages_of_read_start x ha hc hleaving habandoned hblock hk hpacing hidle hcarrying hstarts hnothalted
      (startHostBlock_of_proceeding ⟨portMarked m, []⟩ a p track x ht hretry hk hverify hvisit hring hx hverdict)
  rw [h.exec_eq x _ hstages hf]
  simp [m, blockTaken, portMarked, PathControl.markCounted, Positioning.turned, State.beginBlock, State.ringPush,
    readSlot, diskNumber, State.onDrive, State.onActive, State.onDataPath, State.sending, ha, hdisk]

/-! ## The last block of a read ends (R123, R104) -/

section
variable {s : State} {a : Active} {p : Package} {i : Fin 9}

/-- The first result of a visit (R152). -/
theorem noteVisit_of_first (r : VisitResult) (ha : s.active = some a) (hc : a.conn = .host p i)
    (hresult : p.visitResult = none) : s.noteVisit r =
      { s with active := some { a with conn := .host { p with visitResult := some r } i } } := by
  have hworse : worseResult none r = r := by cases r <;> rfl
  simp only [State.noteVisit, State.onPackage, State.onActive, ha, Option.map_some, hc, Connected.mapPackage_host,
    hresult, hworse]

theorem endLadder_of_unused (s : State) (d : DriveNo) (hstep : s.dataPath.step = 0) (ho : (s.drive d).offset = .none) :
    s.endLadder d = s := by
  have hdone : (s.onDataPath fun y => { y with step := 0 }) = s := by
    simp only [State.onDataPath, ← hstep]
  rw [State.endLadder, hdone, State.offset, if_pos ho]

theorem ringTail_of_only (s : State) (r : RingSlot) (f : RingSlot → RingSlot) (hring : s.dataPath.ring = [r]) :
    s.ringTail f = { s with dataPath := { s.dataPath with ring := [f r] } } := by
  simp [State.ringTail, State.onDataPath, hring]

/-- The disk block after a block of the last track of a pass (R104). -/
def blockAfter (block : Nat) : Nat := if block = 23 then 23 else block + 1

/-- The last block of a pass goes by: the disk side is HALTED. -/
theorem advanceDisk_of_last (ha : s.active = some a) (hc : a.conn = .host p i) (hheld : p.heldStep = none)
    (hleft : a.diskLeft = 1) : s.advanceDisk =
      { s with
        active := some { a with
          diskLeft := 0, blockMarks := none, rewrite := none, diskBlock := blockAfter a.diskBlock }
        dataPath := { s.dataPath with disk := .halted } } := by
  let u : State := { s with
    active := some { a with diskLeft := 0, blockMarks := none, rewrite := none, diskBlock := blockAfter a.diskBlock }
    dataPath := { s.dataPath with disk := .halted } }
  have hpassed : s.advanceDisk = u.takeHeld := by
    by_cases hblock : a.diskBlock = 23
    · simp [State.advanceDisk, State.onActive, State.setDisk, State.onDataPath, ha, hleft, hblock, blockAfter, u]
    · simp [State.advanceDisk, State.onActive, State.setDisk, State.onDataPath, ha, hleft, hblock, blockAfter, u]
  exact hpassed.trans (PathControl.takeHeld_of_no_step u _ p i rfl hc hheld)

end

/-- The connected package with the result of its visit so far CLEAN. -/
def visitedClean (p : Package) : Package := { p with visitResult := some .clean }

/-- The Active Context after the last block of a read has ended, its visit so far CLEAN. -/
def lastBlockPassed (a : Active) (p : Package) (i : Fin 9) : Active :=
  { a with
    conn := .host (visitedClean p) i
    diskLeft := 0, blockMarks := none, rewrite := none, diskBlock := blockAfter a.diskBlock }

/-- The slot of a block that was read GOOD as `c`. -/
def filledGood (c : Content) (r : RingSlot) : RingSlot := { r with fill := .full, status := .good, content := some c }

/-- The unit with the last block of a read, alone in the ring, read GOOD as `c`. -/
def lastBlockRead (a : Active) (p : Package) (i : Fin 9) (r : RingSlot) (c : Content) (s : State) : State :=
  { s with
    active := some (lastBlockPassed a p i)
    dataPath := { s.dataPath with ring := [filledGood c r], disk := .halted } }

/-- What the last block of a read leaves when it passes at step 0 as the first of its visit. -/
theorem passed_eq_lastBlockRead (s : State) (a : Active) (p : Package) (i : Fin 9) (r : RingSlot) (c : Content)
    (ha : s.active = some a) (hc : a.conn = .host p i) (hleft : a.diskLeft = 1) (hresult : p.visitResult = none)
    (hheld : p.heldStep = none) (hstep : s.dataPath.step = 0) (hring : s.dataPath.ring = [r])
    (ho : (s.drive a.drive).offset = .none) :
    (((s.notePass 0).endLadder a.drive).ringTail (filledGood c)).advanceDisk = lastBlockRead a p i r c s := by
  let b : Active := { a with conn := .host (visitedClean p) i }
  let v : State := { s with active := some b }
  have hvisited : s.notePass 0 = v := noteVisit_of_first .clean ha hc hresult
  have hladder : v.endLadder a.drive = v := endLadder_of_unused v a.drive hstep ho
  rw [hvisited, hladder, ringTail_of_only v r _ hring]
  exact advanceDisk_of_last (a := b) (p := visitedClean p) (i := i) rfl rfl hheld hleft

/-- A read block with good data off the surface passes. -/
theorem endHostBlock_of_good_read (t : Turn) (a : Active) (p : Package) (track : Track) (c : Content) (x : MarkInput)
    (ht : a.diskPhysical = some track) (hfield : a.fieldFailed = false) (hk : p.kind = .readBlocks)
    (hverify : p.verify = false) (hstep : t.st.dataPath.step = 0) (hx : x.data = none)
    (hdata : (t.st.recorded a.drive track a.diskBlock).data = ⟨c, .generated⟩) :
    endHostBlock a p x t =
      t.upd fun s => (((s.notePass 0).endLadder a.drive).ringTail (filledGood c)).advanceDisk := by
  have hpass : endHostBlock a p x t = passHostBlock a p track c t := by
    simp [endHostBlock, ht, hx, hdata, hfield, dataGood, checkAgrees]
  rw [hpass]
  simp only [passHostBlock, hstep, hverify, hk, Bool.false_eq_true, if_false, if_true]
  rfl

/-- Of the four stages of a mark two find something to do: the end of the disk block, and the start of the port block. -/
theorem stages_of_last_block_end {s : State} {d : DriveNo} {a : Active} {p : Package} {r : RingSlot} {c : Content}
    (x : MarkInput) (ha : s.active = some a) (hc : a.conn = .host p (driveSlot d)) (hleaving : a.leaving = none)
    (habandoned : a.abandoned = false) (hblock : a.blockMarks = some 3) (hk : p.kind = .readBlocks)
    (hpacing : s.dataPath.pacing < 16) (hport : s.dataPath.port = .idle)
    (hend : endHostBlock a p x ⟨s, []⟩ = ⟨lastBlockRead a p (driveSlot d) r c s, []⟩) :
    stages x ⟨s, []⟩ = ⟨carryBegun (filledGood c r) (lastBlockRead a p (driveSlot d) r c s), []⟩ := by
  let u := lastBlockRead a p (driveSlot d) r c s
  let b := lastBlockPassed a p (driveSlot d)
  have himage : b.isImage = false := isImage_of_drive_context (p := visitedClean p) rfl
  have hactive : u.active = some b := rfl
  have hhalted : u.blockStarts b = false := by simp [State.blockStarts, b, lastBlockPassed]
  have hunfinished : endPortBlock b (visitedClean p) x ⟨u, []⟩ = ⟨u, []⟩ := by
    rw [endPortBlock, if_neg (by rw [show u.dataPath.port = _ from hport]; decide)]
  have hcarries : stagePortStart ⟨u, []⟩ = ⟨carryBegun (filledGood c r) u, []⟩ :=
    (stagePortStart_of_host (t := ⟨u, []⟩) (a := b) (i := driveSlot d) hactive rfl habandoned hpacing).trans <|
      beginPortBlock_of_good himage hk hport rfl rfl rfl
  refine stages_of_staying x ?_ (a := b) rfl hleaving
  calc stagePortStart (stageDiskStart x (stagePortEnd x (stageDiskEnd x ⟨s, []⟩)))
      = stagePortStart (stageDiskStart x (stagePortEnd x ⟨u, []⟩)) := by
        rw [stageDiskEnd_of_fourth_mark (t := ⟨s, []⟩) x ha hc hblock habandoned, hend]
    _ = stagePortStart (stageDiskStart x ⟨u, []⟩) := by
        rw [stagePortEnd_of_host (t := ⟨u, []⟩) (a := b) (i := driveSlot d) x hactive rfl, hunfinished]
    _ = stagePortStart ⟨u, []⟩ := by rw [stageDiskStart_of_no_start (t := ⟨u, []⟩) (a := b) x hactive hhalted]
    _ = ⟨carryBegun (filledGood c r) u, []⟩ := hcarries

/-- Settles O45: the mark turns the drive, its block ends good, and the port begins to carry it. -/
theorem readBlockEndsGood : Obligations.ReadBlockEndsGood := by
  intro s d x a p track r c hf ha hd hc hphase hleaving habandoned hblock hfield hleft ht hk hverify hvisit hresult
    hheld hpacing hport hstep hring _ hw hi ho hwindow hfree hx hdata
  have h : ReadReady s d a p track :=
    ⟨hf, ha, hd, hc, hphase, hleaving, habandoned, ht, hk, hverify, hpacing, hw, hi, hwindow, hfree⟩
  let m := PathControl.markCounted d s
  have hoffset : (m.drive a.drive).offset = .none := by
    rw [hd, PathControl.markCounted_drive]; exact ho
  have hrecorded : (m.recorded a.drive track a.diskBlock).data = ⟨c, .generated⟩ := by rw [hd]; exact hdata
  have hend : endHostBlock a p x ⟨m, []⟩ = ⟨lastBlockRead a p (driveSlot d) r c m, []⟩ :=
    (endHostBlock_of_good_read ⟨m, []⟩ a p track c x ht hfield hk hverify hstep hx hrecorded).trans <|
      congrArg (Turn.mk · [])
        (passed_eq_lastBlockRead m a p (driveSlot d) r c ha hc hleft hresult hheld hstep hring hoffset)
  have hstages : stages x ⟨m, []⟩ = ⟨carryBegun (filledGood c r) (lastBlockRead a p (driveSlot d) r c m), []⟩ :=
    stages_of_last_block_end x ha hc hleaving habandoned hblock hk hpacing hport hend
  rw [h.exec_eq x _ hstages hf]
  rfl

end Sys2Proof.Machine.StagingRing

/-! SUPPORT. Proofs about sparing operations: what the write-ahead of S2 leaves in the table, the ends of S3, S4 and S5,
and the order that a SPARE TRACK request places. -/

namespace Sys2Proof.Machine.SparingOperations

open MapOperations (exec_mapBufferTaken bufferNext_of_waiting armWindow_frame armWindow_works armWindow_work
  armWindow_window works_set_work setWork_eq_self workEnd_of_result startedOrder_of_only onStarted_of_only sentTo
  headSelect_seek enterS4_of_only close_of_idle_tasks imageDispatch_of_no_requests)

/-! ## The commands' arms -/

theorem exec_sparingReadEnd (d : DriveNo) (s : State) :
    exec (.sparingReadEnd d) s = complete (sparingReadEnd d) s := rfl

theorem exec_sparingWriteVerifyEnd (d : DriveNo) (s : State) :
    exec (.sparingWriteVerifyEnd d) s = complete (sparingWriteVerifyEnd d) s := rfl

theorem exec_sparingMarkEnd (d : DriveNo) (s : State) :
    exec (.sparingMarkEnd d) s = complete (sparingMarkEnd d) s := rfl

theorem exec_spareTrack (p : Port) (m : DriveRequest) (lingers : Bool) (s : State) :
    exec (.spareTrack p m lingers) s = complete (present p ⟨.drive .spareTrack m, lingers⟩) s := rfl

/-! ## The Spare Table (R22)

A table in ascending order holds one entry at most for a track, so that entry splits the table. -/

theorem pairwise_of_ascending : ∀ table : List SpareEntry, ascending table = true →
    table.Pairwise fun e x => e.track < x.track
  | [], _ => .nil
  | [_], _ => List.pairwise_singleton _ _
  | e :: x :: l, h => by
    obtain ⟨hlt, hrest⟩ : e.track < x.track ∧ ascending (x :: l) = true := by simpa [ascending] using h
    have hx := pairwise_of_ascending (x :: l) hrest
    refine .cons (fun y hy => ?_) hx
    rcases List.mem_cons.1 hy with rfl | hy
    · exact hlt
    · exact Nat.lt_trans hlt (List.rel_of_pairwise_cons hx hy)

/-- No entry beside the split one is for its track. -/
theorem split_of_ascending {table l r : List SpareEntry} {e : SpareEntry} (h : ascending table = true)
    (ht : table = l ++ e :: r) : (∀ x ∈ l, x.track ≠ e.track) ∧ ∀ x ∈ r, x.track ≠ e.track := by
  subst ht
  obtain ⟨-, hr, hcross⟩ := List.pairwise_append.1 (pairwise_of_ascending _ h)
  exact ⟨fun x hx => Nat.ne_of_lt (hcross x hx e List.mem_cons_self),
    fun x hx => Nat.ne_of_gt (List.rel_of_pairwise_cons hr hx)⟩

theorem tableEntry_eq_none {table : List SpareEntry} {n : Nat} (h : ∀ e ∈ table, e.track ≠ n) :
    tableEntry table n = none :=
  List.find?_eq_none.2 fun e he => by simpa using h e he

theorem tableEntry_of_split {l r : List SpareEntry} {e : SpareEntry} {n : Nat} (hl : ∀ x ∈ l, x.track ≠ n)
    (he : e.track = n) : tableEntry (l ++ e :: r) n = some e := by
  have hnone : (l.find? fun x => x.track = n) = none := tableEntry_eq_none hl
  simp [tableEntry, List.find?_append, hnone, he]

theorem tableAlter_of_absent {table : List SpareEntry} {n : Nat} (f : SpareEntry → SpareEntry)
    (h : ∀ e ∈ table, e.track ≠ n) : tableAlter table n f = table :=
  (List.map_congr_left fun e he => if_neg (h e he)).trans (List.map_id' _)

theorem tableAlter_of_split {l r : List SpareEntry} {e : SpareEntry} {n : Nat} (f : SpareEntry → SpareEntry)
    (hl : ∀ x ∈ l, x.track ≠ n) (he : e.track = n) (hr : ∀ x ∈ r, x.track ≠ n) :
    tableAlter (l ++ e :: r) n f = l ++ f e :: r := by
  have hsplit : tableAlter (l ++ e :: r) n f = tableAlter l n f ++ f e :: tableAlter r n f := by
    simp [tableAlter, he]
  rw [hsplit, tableAlter_of_absent f hl, tableAlter_of_absent f hr]

theorem tableRemove_of_absent {table : List SpareEntry} {n : Nat} (h : ∀ e ∈ table, e.track ≠ n) :
    tableRemove table n = table :=
  List.filter_eq_self.2 fun e he => decide_eq_true (h e he)

theorem tableRemove_of_split {l r : List SpareEntry} {e : SpareEntry} {n : Nat} (hl : ∀ x ∈ l, x.track ≠ n)
    (he : e.track = n) (hr : ∀ x ∈ r, x.track ≠ n) : tableRemove (l ++ e :: r) n = l ++ r := by
  have hsplit : tableRemove (l ++ e :: r) n = tableRemove l n ++ tableRemove r n := by
    simp [tableRemove, he]
  rw [hsplit, tableRemove_of_absent hl, tableRemove_of_absent hr]

/-- A new entry goes between the entries of lower and of higher tracks. -/
theorem tableInsert_split (e : SpareEntry) : ∀ table : List SpareEntry, (table.Pairwise fun x y => x.track < y.track) →
    (∀ x ∈ table, x.track ≠ e.track) →
    ∃ l r, table = l ++ r ∧ tableInsert e table = l ++ e :: r ∧ (∀ x ∈ l, x.track < e.track) ∧
      ∀ x ∈ r, e.track < x.track
  | [], _, _ => ⟨[], [], rfl, rfl, by simp, by simp⟩
  | x :: table, hp, hne => by
    obtain ⟨hx, hp⟩ := List.pairwise_cons.1 hp
    obtain ⟨hxe, hne⟩ := List.forall_mem_cons.1 hne
    by_cases hlt : e.track < x.track
    · exact ⟨[], x :: table, rfl, by simp [tableInsert, hlt], by simp,
        List.forall_mem_cons.2 ⟨hlt, fun y hy => Nat.lt_trans hlt (hx y hy)⟩⟩
    · obtain ⟨l, r, rfl, hinsert, hl, hr⟩ := tableInsert_split e table hp hne
      exact ⟨x :: l, r, rfl, by simp [tableInsert, hlt, hinsert], List.forall_mem_cons.2 ⟨by omega, hl⟩, hr⟩

/-! ## The write-ahead of S2 and its restoration (R166, R171) -/

/-- The entry as the write-ahead leaves it: COPYING with the new alternate; the alternate of a COMMITTED entry becomes
the former one. -/
def writtenAhead (a : Nat) (e : SpareEntry) : SpareEntry :=
  { e with
    alternate := a, state := .copying, former := if e.state = .committed then some e.alternate else e.former }

theorem writeAhead_of_absent {m : DriveMap} {n : Nat} (a : Nat) (h : ∀ e ∈ m.table, e.track ≠ n) :
    m.writeAhead n a = { m with table := tableInsert ⟨n, a, .copying, none⟩ m.table } := by
  simp only [DriveMap.writeAhead, tableEntry_eq_none h]

theorem writeAhead_of_split {m : DriveMap} {n : Nat} (a : Nat) {l r : List SpareEntry} {e : SpareEntry}
    (h : m.table = l ++ e :: r) (hl : ∀ x ∈ l, x.track ≠ n) (he : e.track = n) (hr : ∀ x ∈ r, x.track ≠ n) :
    m.writeAhead n a = { m with table := l ++ writtenAhead a e :: r } := by
  have hentry : tableEntry m.table n = some e := by rw [h]; exact tableEntry_of_split hl he
  cases hs : e.state with
  | committed =>
    simp only [DriveMap.writeAhead, hentry, hs, writtenAhead, if_true]
    rw [h, tableAlter_of_split _ hl he hr]
  | copying =>
    simp only [DriveMap.writeAhead, hentry, hs, writtenAhead, reduceCtorEq, if_false]
    rw [h, tableAlter_of_split _ hl he hr, hs]

/-- A track's entry either is missing from the table or splits it. -/
theorem absent_or_split (table : List SpareEntry) (n : Nat) (h : ascending table = true) :
    (∀ e ∈ table, e.track ≠ n) ∨ ∃ l e r, table = l ++ e :: r ∧ (∀ x ∈ l, x.track ≠ n) ∧ e.track = n ∧
      ∀ x ∈ r, x.track ≠ n := by
  by_cases hn : ∃ e ∈ table, e.track = n
  · obtain ⟨e, he, rfl⟩ := hn
    obtain ⟨l, r, ht⟩ := List.append_of_mem he
    obtain ⟨hl, hr⟩ := split_of_ascending h ht
    exact .inr ⟨l, e, r, ht, hl, rfl, hr⟩
  · exact .inl fun e he hen => hn ⟨e, he, hen⟩

/-- The write-ahead changes nothing but the table. -/
theorem writeAhead_frame (m : DriveMap) (n a : Nat) :
    m.writeAhead n a = { m with table := (m.writeAhead n a).table } := by
  unfold DriveMap.writeAhead
  split
  · rfl
  · split <;> rfl

/-- A track without an entry gains one in its place. -/
theorem writeAhead_adds (m : DriveMap) (n a : Nat) (h : ascending m.table = true) (hn : ∀ e ∈ m.table, e.track ≠ n) :
    ∃ l r, m.table = l ++ r ∧ (m.writeAhead n a).table = l ++ ⟨n, a, .copying, none⟩ :: r ∧
      (∀ e ∈ l, e.track < n) ∧ ∀ e ∈ r, n < e.track := by
  rw [writeAhead_of_absent a hn]
  exact tableInsert_split ⟨n, a, .copying, none⟩ m.table (pairwise_of_ascending _ h) hn

/-- The entry that the write-ahead added is taken out again. -/
theorem restore_of_added {m : DriveMap} {n a : Nat} {l r : List SpareEntry}
    (h : m.table = l ++ ⟨n, a, .copying, none⟩ :: r) (hl : ∀ x ∈ l, x.track ≠ n) (hr : ∀ x ∈ r, x.track ≠ n) :
    m.restore n = { m with table := l ++ r } := by
  have hentry : tableEntry m.table n = some ⟨n, a, .copying, none⟩ := by rw [h]; exact tableEntry_of_split hl rfl
  simp only [DriveMap.restore, hentry, if_true]
  rw [h, tableRemove_of_split hl rfl hr]

/-- The entry that the write-ahead changed is given back its alternate. -/
theorem restore_of_changed {m : DriveMap} {n a : Nat} {l r : List SpareEntry} {e : SpareEntry}
    (h : m.table = l ++ writtenAhead a e :: r) (hl : ∀ x ∈ l, x.track ≠ n) (he : e.track = n)
    (hr : ∀ x ∈ r, x.track ≠ n) (hs : e.state = .committed) (hformer : e.former = none) :
    m.restore n = { m with table := l ++ e :: r } := by
  have hentry : tableEntry m.table n = some (writtenAhead a e) := by rw [h]; exact tableEntry_of_split hl he
  have hback : { writtenAhead a e with alternate := e.alternate, state := .committed, former := none } = e := by
    simp only [writtenAhead, ← hs, ← hformer]
  have hcopying : (writtenAhead a e).state = .copying := rfl
  have hold : (writtenAhead a e).former = some e.alternate := by simp [writtenAhead, hs]
  simp only [DriveMap.restore, hentry, hcopying, hold, if_true]
  rw [h, tableAlter_of_split _ hl (by exact he) hr, hback]

/-- Over an entry that is COMMITTED without a former alternate, or none, the restoration undoes the write-ahead. -/
theorem restore_writeAhead (m : DriveMap) (n a : Nat) (h : ascending m.table = true)
    (hc : ∀ e ∈ m.table, e.track = n → e.state = .committed ∧ e.former = none) :
    (m.writeAhead n a).restore n = m := by
  rcases absent_or_split m.table n h with hn | ⟨l, e, r, ht, hl, he, hr⟩
  · obtain ⟨l, r, ht, hadded, hl, hr⟩ := writeAhead_adds m n a h hn
    rw [restore_of_added hadded (fun x hx => Nat.ne_of_lt (hl x hx)) fun x hx => Nat.ne_of_gt (hr x hx), ← ht,
      writeAhead_frame]
  · obtain ⟨hs, hformer⟩ := hc e (by simp [ht]) he
    rw [writeAhead_of_split a ht hl he hr, restore_of_changed rfl hl he hr hs hformer, ← ht]

/-! ## S2 begun as the map buffer is taken (R29, R166) -/

/-- The unit with the map buffer taken by drive `d`'s map write, `rest` still waiting, its order `o` in S2 and its
write-ahead made in the map `m`, and the work context made (R102). -/
def writeBegun (d : DriveNo) (rest : List MapOp) (o : Order) (m : DriveMap) (s : State) : State :=
  { s with
    mapBuffer := ⟨some ⟨d, false⟩, rest,
      [.mapPart m.toRecord 0, .mapPart m.toRecord 1, .mapPart m.toRecord 2, .mapPart m.toRecord 3]⟩
    orders := [{ o with step := .s2 }]
    maps := s.maps.set d { m with writeOwed := false }
    works := s.works.set d (some ⟨.mapWrite, mapTrack, 0, 4, 0, none, none, none⟩)
    out := [] }

theorem writeBegun_work (d k : DriveNo) (rest : List MapOp) (o : Order) (m : DriveMap) (s : State) :
    (writeBegun d rest o m s).work k =
      if d = k then some ⟨.mapWrite, mapTrack, 0, 4, 0, none, none, none⟩ else s.work k :=
  works_set_work s d k _

theorem writeBegun_map (d k : DriveNo) (rest : List MapOp) (o : Order) (m : DriveMap) (s : State) :
    (writeBegun d rest o m s).map k = if d = k then { m with writeOwed := false } else s.map k :=
  State.onMap_map s d k fun _ => { m with writeOwed := false }

theorem armWindow_map (s : State) (d k : DriveNo) (b l : Nat) (h : Bool) : (s.armWindow d b l h).map k = s.map k := by
  rw [armWindow_frame]; rfl

theorem onMap_onMap (s : State) (d : DriveNo) (f g : DriveMap → DriveMap) :
    (s.onMap d f).onMap d g = s.onMap d fun m => g (f m) := by
  cases s
  simp [State.onMap]

/-- The one order is in S1: S2 begins with its write-ahead. -/
theorem beginS2_of_only (s : State) (d : DriveNo) (o : Order) (n a : Nat) (h : s.orders = [o]) (hd : o.drive = d)
    (hn : o.track = some n) (ha : o.newAlt = some a) (hs : o.step = .s1) :
    s.beginS2 d = State.onMap { s with orders := [{ o with step := .s2 }] } d fun m => m.writeAhead n a := by
  have hstarted : o.step ≠ .notStarted := by simp [hs]
  simp only [State.beginS2, startedOrder_of_only s d o h hd hstarted, hn, ha, hs,
    onStarted_of_only s d o _ h hd hstarted]

/-- The map write of the one order, in S1, that takes the buffer has its window armed when the arm stands still
(R34). -/
theorem takeBuffer_s1 (s : State) (d : DriveNo) (rest : List MapOp) (o : Order) (n a : Nat)
    (hr : s.mapBuffer.waiting.filter (· ≠ ⟨d, false⟩) = rest) (ho : s.orders = [o]) (hd : o.drive = d)
    (hn : o.track = some n) (ha : o.newAlt = some a) (hs : o.step = .s1) (h : (s.drive d).unanswered = .stopped) :
    (s.sending []).takeBuffer ⟨d, false⟩ =
      (writeBegun d rest o ((s.map d).writeAhead n a) s).armWindow d 0 workLead false := by
  let r := ((s.map d).writeAhead n a).toRecord
  let taken : State := { s.sending [] with mapBuffer := ⟨some ⟨d, false⟩, rest, []⟩ }
  let inS2 : State := { taken with orders := [{ o with step := .s2 }] }
  let filled : State := { inS2 with mapBuffer :=
    ⟨some ⟨d, false⟩, rest, [.mapPart r 0, .mapPart r 1, .mapPart r 2, .mapPart r 3]⟩ }
  have hbegun : taken.beginS2 d = inS2.onMap d fun m => m.writeAhead n a := beginS2_of_only taken d o n a ho hd hn ha hs
  have hmap : (inS2.onMap d fun m => m.writeAhead n a).map d = (s.map d).writeAhead n a := State.onMap_map_self _ d _
  have hmaps : (filled.onMap d fun m => m.writeAhead n a).onMap d (fun m => { m with writeOwed := false }) =
      { filled with maps := s.maps.set d { (s.map d).writeAhead n a with writeOwed := false } } := onMap_onMap _ d _ _
  have hstill : ((writeBegun d rest o ((s.map d).writeAhead n a) s).drive d).unanswered = .stopped := h
  have harm : (writeBegun d rest o ((s.map d).writeAhead n a) s).armWork d =
      (writeBegun d rest o ((s.map d).writeAhead n a) s).armWindow d 0 workLead false := by
    simp only [State.armWork, writeBegun_work, hstill, if_true]
  rw [← harm]
  simp only [State.takeBuffer, State.sending_mapBuffer, hr, Bool.false_eq_true, if_false]
  rw [hbegun, hmap]
  exact congrArg (State.beginWork · d .mapWrite mapTrack 4) hmaps

/-- The waiting map write of the one order, in S1, takes the freed buffer. -/
theorem exec_mapBufferTaken_s1 (s : State) (d : DriveNo) (rest : List MapOp) (o : Order) (n a : Nat)
    (hf : s.followUps = []) (howner : s.mapBuffer.owner = none) (hwait : s.mapBuffer.waiting = ⟨d, false⟩ :: rest)
    (hnot : ⟨d, false⟩ ∉ rest) (ho : s.orders = [o]) (hd : o.drive = d) (hn : o.track = some n)
    (ha : o.newAlt = some a) (hs : o.step = .s1) (h : (s.drive d).unanswered = .stopped) :
    exec .mapBufferTaken s =
      .next ((writeBegun d rest o ((s.map d).writeAhead n a) s).armWindow d 0 workLead false) := by
  have hrest : s.mapBuffer.waiting.filter (· ≠ ⟨d, false⟩) = rest := by
    rw [hwait, List.filter_cons_of_neg (by simp)]
    exact List.filter_eq_self.2 fun op hop => decide_eq_true fun e => hnot (e ▸ hop)
  rw [exec_mapBufferTaken, complete_of_settled _ _ hf]
  simp only [Turn.upd]
  rw [bufferNext_of_waiting (s.sending []) ⟨d, false⟩ rest howner hwait,
    takeBuffer_s1 s d rest o n a hrest ho hd hn ha hs h]
  exact congrArg _ (Turn.close_nil _ (by rw [armWindow_frame]; exact hf))

/-- Settles O59: an entry that splits the table, or goes between two parts of it, says what the write-ahead leaves; and
the order that takes the buffer leaves `writeBegun` with its window armed. -/
theorem restoreUndoesWriteAhead : Obligations.RestoreUndoesWriteAhead := by
  refine ⟨restore_writeAhead, fun m n a h => ⟨writeAhead_frame m n a, fun hn => ?_, fun l e r ht he => ?_⟩, ?_⟩
  · exact writeAhead_adds m n a h hn
  · subst he
    obtain ⟨hl, hr⟩ := split_of_ascending h ht
    rw [writeAhead_of_split a ht hl rfl hr]
    rfl
  · intro s d rest o n a g hf howner hwait hnot ho hd hkind hs ha hstill
    have htrack : o.track = some n := by simp [Order.track, hkind]
    refine ⟨_, exec_mapBufferTaken_s1 s d rest o n a hf howner hwait hnot ho hd htrack ha hs hstill, ?_, ?_, ?_, ?_,
      fun k hk => ⟨?_, ?_, ?_⟩, ?_⟩
    · rw [armWindow_works, armWindow_frame]; rfl
    · rw [armWindow_frame]; rfl
    · rw [armWindow_frame]; rfl
    · rw [armWindow_map, writeBegun_map, if_pos rfl, writeAhead_frame (s.map d) n a]
    · rw [armWindow_map, writeBegun_map, if_neg hk.symm]
    · rw [armWindow_work, writeBegun_work, if_neg hk.symm]
    · rw [armWindow_window, if_neg hk.symm]; rfl
    · rw [armWindow_work, writeBegun_work, if_pos rfl]; rfl

/-! ## Entering a step whose track is on another cylinder (R165, R168–R170) -/

theorem sentTo_drive (d k : DriveNo) (track : Track) (s : State) :
    (sentTo d track s).drive k =
      if d = k then { s.drive d with head := track.head, offset := .none, target := some track.cyl, timer := .ms120 }
      else s.drive k :=
  State.onDrive_drive _ d k _

theorem sendToStep_of_away (s : State) (d : DriveNo) (o : Order) (h : s.startedOrder d = some o)
    (hcyl : o.place.cyl ≠ (s.drive d).cylinder) : s.sendToStep d = sentTo d o.place s := by
  have hcylinder : ((s.headSelect d o.place.head).drive d).cylinder = (s.drive d).cylinder :=
    Positioning.headSelect_cylinder s d o.place.head
  have hfar : ((o.step = .s3 || o.step = .s4) || o.place.cyl ≠ (s.drive d).cylinder) = true := by simp [hcyl]
  simp only [State.sendToStep, h, hcylinder]
  rw [if_pos (by simpa using hfar), headSelect_seek]

/-- The one order enters a step of another cylinder, in which no image service check is made. -/
theorem enterStep_of_away (d : DriveNo) (o : Order) (step : OrderStep) (t : Turn) (h : t.st.orders = [o])
    (hd : o.drive = d) (hs : o.step ≠ .notStarted) (hstep : step ≠ .notStarted) (h4 : step ≠ .s4)
    (hcyl : { o with step := step }.place.cyl ≠ (t.st.drive d).cylinder) :
    enterStep d step t = t.upd fun s =>
      sentTo d { o with step := step }.place { s with orders := [{ o with step := step }] } := by
  have hsent := sendToStep_of_away { t.st with orders := [{ o with step := step }] } d { o with step := step }
    (startedOrder_of_only _ d _ rfl hd hstep) hcyl
  simp only [enterStep, Turn.upd, onStarted_of_only t.st d o _ h hd hs, hsent, if_neg h4]

/-! ## The end of S3 (R167) -/

/-- The unit with the work of drive `d` taken away and nothing sent out yet. -/
def workTaken (d : DriveNo) (s : State) : State := { s with works := s.works.set d none, out := [] }

theorem workTaken_work (d : DriveNo) (s : State) : (workTaken d s).work d = none :=
  (works_set_work s d d none).trans (if_pos rfl)

/-- A first outcome of a track, in a table with room, makes an entry unless it is CLEAN (R155). -/
theorem historyAfter_of_new (l : List HistoryEntry) (d : DriveNo) (v : Track) (r : VisitResult)
    (hnew : ∀ e ∈ l, e.drive = d → e.track ≠ v) (hroom : l.length < 32) :
    historyAfter l d v r = if r = .clean then l else ⟨d, v, [r], .none, none, none⟩ :: l := by
  have hnone : (l.find? fun e => e.isFor d v) = none :=
    List.find?_eq_none.2 fun e he => by simpa [HistoryEntry.isFor] using hnew e he
  simp only [historyAfter, hnone, historyRoom, hroom, if_true]

/-- One outcome does not meet the candidate rule (R157). -/
theorem meetsCandidateRule_singleton (r : VisitResult) : meetsCandidateRule [r] = false := by
  cases r <;> decide

/-- The candidate rule finds nothing to do after a first outcome. -/
theorem candidateRule_of_new (d : DriveNo) (v : Track) (n : Nat) (permit : Bool) (r : VisitResult)
    (l : List HistoryEntry) (u : Turn) (hnew : ∀ e ∈ l, e.drive = d → e.track ≠ v)
    (hu : u.st.history = if r = .clean then l else ⟨d, v, [r], .none, none, none⟩ :: l) :
    candidateRule d v n permit u = u := by
  have hnone : (l.find? fun e => e.isFor d v) = none :=
    List.find?_eq_none.2 fun e he => by simpa [HistoryEntry.isFor] using hnew e he
  by_cases hr : r = .clean
  · simp only [candidateRule, hu, if_pos hr, hnone]
  · simp [candidateRule, hu, if_neg hr, HistoryEntry.isFor, meetsCandidateRule_singleton]

/-- The unit with the first outcome of a visit noted: the track has an owner, and the outcome is not CLEAN (R155). -/
def visitNoted (d : DriveNo) (v : Track) (r : VisitResult) (s : State) : State :=
  { s with history := if s.owner d v = none ∨ r = .clean then s.history
      else ⟨d, v, [r], .none, none, none⟩ :: s.history }

theorem recordVisit_of_new (d : DriveNo) (v : Track) (r : VisitResult) (permit : Bool) (u : Turn)
    (hnew : ∀ e ∈ u.st.history, e.drive = d → e.track ≠ v) (hroom : u.st.history.length < 32) :
    recordVisit d v r permit u = u.upd (visitNoted d v r) := by
  cases hv : u.st.owner d v with
  | none => simp [recordVisit, visitNoted, hv, Turn.upd]
  | some n =>
    simp only [recordVisit, visitNoted, hv, Turn.upd, historyAfter_of_new _ d v r hnew hroom, reduceCtorEq, false_or]
    exact candidateRule_of_new d v n permit r u.st.history _ hnew rfl

/-- Settles O52: the visit is noted, and the order enters S4, whose image service check finds no request. -/
theorem sparingReadEndEntersS4 : Obligations.SparingReadEndEntersS4 := by
  intro s d w o n b g v r hf hw hk hr hv hvr hnew hroom ho hd hkind hs hb hq
  have hplace : { o with step := .s4 }.place = alternateTrack b := by simp [Order.place, hkind, hb]
  have hend : sparingReadEnd d ⟨s.sending [], []⟩ = enterStep d .s4 ⟨visitNoted d v r (workTaken d s), []⟩ := by
    simp only [sparingReadEnd, workEnd_of_result (s.sending []) d [.sparingRead] w .done hw (by simp [hk]) hr, hv, hvr,
      endVisit, if_true]
    exact congrArg (enterStep d .s4) (recordVisit_of_new d v r false ⟨workTaken d s, []⟩ hnew hroom)
  rw [exec_sparingReadEnd, complete_of_settled _ _ hf, hend,
    enterS4_of_only d o ⟨visitNoted d v r (workTaken d s), []⟩ ho hd (by simp [hs]), hplace]
  refine congrArg Host.Outcome.next (close_of_idle_tasks _ [.imageCheck] hf (by simp) fun x hx rest => ?_)
  obtain rfl := List.mem_singleton.1 hx
  exact congrArg (Turn.mk · rest) (imageDispatch_of_no_requests _ hq)

/-! ## A step that writes the map (R166, R170) -/

theorem place_of_mapWrite (o : Order) (h : o.step = .s2 ∨ o.step = .s6) : o.place = mapTrack := by
  cases hk : o.kind <;> rcases h with h | h <;> simp [Order.place, hk, h]

/-- The unit with the work of drive `d` taken away, its one order as `o`, its map changed by `f`, and the drive sent to
the map track. -/
def sentToMap (d : DriveNo) (o : Order) (f : DriveMap → DriveMap) (s : State) : State :=
  sentTo d mapTrack (State.onMap { s with orders := [o], works := s.works.set d none, out := [] } d f)

/-- What that changes, as O53 and O54 state it. -/
theorem sentToMap_parts (d : DriveNo) (o : Order) (f : DriveMap → DriveMap) (s : State) :
    let t := sentToMap d o f s
    t = { s with drives := t.drives, maps := t.maps, works := t.works, out := t.out, orders := [o] } ∧
      t.work d = none ∧ t.out = [.bus d (.headSelect 0), .bus d (.seek 655)] ∧
      t.drive d = { s.drive d with head := 0, offset := .none, target := some 655, timer := .ms120 } ∧
      (∀ j, j ≠ d → t.drive j = s.drive j) ∧ t.map d = f (s.map d) ∧ ∀ j, j ≠ d → t.map j = s.map j := by
  refine ⟨rfl, workTaken_work d s, rfl, ?_, fun j hj => ?_, ?_, fun j hj => ?_⟩
  · rw [sentToMap, sentTo_drive, if_pos rfl]; rfl
  · rw [sentToMap, sentTo_drive, if_neg hj.symm]; rfl
  · exact State.onMap_map_self s d f
  · exact (State.onMap_map s d j f).trans (if_neg hj.symm)

/-- The one order enters a step that writes the map, with the drive's map changed and its work taken. -/
theorem enterStep_of_mapWrite (s : State) (d : DriveNo) (o : Order) (step : OrderStep) (f : DriveMap → DriveMap)
    (hd : o.drive = d) (hs : o.step ≠ .notStarted) (hstep : step = .s2 ∨ step = .s6)
    (hcyl : (s.drive d).cylinder ≠ 655) :
    enterStep d step ⟨State.onMap { s with orders := [o], works := s.works.set d none, out := [] } d f, []⟩ =
      ⟨sentToMap d { o with step := step } f s, []⟩ := by
  have hplace : { o with step := step }.place = mapTrack := place_of_mapWrite _ hstep
  rw [enterStep_of_away d o step _ rfl hd hs (by rcases hstep with rfl | rfl <;> decide)
    (by rcases hstep with rfl | rfl <;> decide) (by rw [hplace]; exact hcyl.symm), hplace]
  rfl

/-! ## The end of S4 (R168) -/

/-- The end of the work of S4 taken: S5 follows, or the alternate has failed. -/
theorem sparingWriteVerifyEnd_eq (s : State) (d : DriveNo) (w : Work) (r : WorkResult) (hw : s.work d = some w)
    (hk : w.kind = .sparingWrite ∨ w.kind = .sparingVerify) (hr : w.result = some r) :
    sparingWriteVerifyEnd d ⟨s.sending [], []⟩ =
      if r = .done then enterStep d .s5 ⟨workTaken d s, []⟩ else alternateFailed d ⟨workTaken d s, []⟩ := by
  simp only [sparingWriteVerifyEnd,
    workEnd_of_result (s.sending []) d [.sparingWrite, .sparingVerify] w r hw (by simpa using hk) hr]
  rfl

theorem retire_of_new (m : DriveMap) (a : Nat) (h : a ∉ m.retired) :
    m.retire a = { m with retired := m.retired ++ [a] } := by
  simp [DriveMap.retire, h]

theorem retire_of_retired (m : DriveMap) (a : Nat) (h : a ∈ m.retired) : m.retire a = m := by
  simp [DriveMap.retire, h]

/-- A retired index is no longer free; every other index is as free as before (R22, R23). -/
theorem isFree_retire (m : DriveMap) (a c : Nat) : (m.retire a).isFree c = (decide (c ≠ a) && m.isFree c) := by
  by_cases ha : a ∈ m.retired
  · rw [retire_of_retired m a ha]
    by_cases hca : c = a
    · simp [DriveMap.isFree, hca, ha]
    · simp [hca]
  · rw [retire_of_new m a ha]
    by_cases hca : c = a <;> simp [DriveMap.isFree, hca]

theorem lowestFree_eq (m : DriveMap) (c : Nat) (hc : c < 180) (hfree : m.isFree c = true)
    (hleast : ∀ a, a < c → m.isFree a = false) : m.lowestFree = some c :=
  List.find?_range_eq_some.2 ⟨hfree, List.mem_range.2 hc, fun a ha => by simp [hleast a ha]⟩

/-- The drive's map with the failed alternate `b` retired and `c` in its place in the entry of track `n`. -/
def alternateReplaced (n b c : Nat) (m : DriveMap) : DriveMap :=
  { m.retire b with table := tableAlter (m.retire b).table n fun e => { e with alternate := c } }

theorem alternateReplaced_eq (n b c : Nat) (m : DriveMap) (h : b ∉ m.retired) :
    alternateReplaced n b c m =
      { m with
        table := m.table.map fun e => if e.track = n then { e with alternate := c } else e
        retired := m.retired ++ [b] } := by
  rw [alternateReplaced, retire_of_new m b h]
  rfl

/-- The one order's alternate `b` has failed, and `c` is the lowest free index left: the order returns to S2 with it. -/
theorem alternateFailed_of_only (s : State) (d : DriveNo) (o : Order) (n b c : Nat) (ho : s.orders = [o])
    (hd : o.drive = d) (hs : o.step ≠ .notStarted) (hn : o.track = some n) (hb : o.newAlt = some b)
    (hw : s.work d = none) (hc : ((s.map d).retire b).lowestFree = some c) :
    alternateFailed d ⟨s, []⟩ = enterStep d .s2
      ⟨State.onMap { s with orders := [{ o with newAlt := some c, retryCount := o.retryCount + 1 }] } d
        (alternateReplaced n b c), []⟩ := by
  let counted : State := { s with orders := [{ o with retryCount := o.retryCount + 1 }] }
  have hcounted : ((s.onMap d fun m => m.retire b).onStarted d fun o =>
      { o with retryCount := o.retryCount + 1 }).setWork d none = counted.onMap d fun m => m.retire b := by
    rw [onStarted_of_only (s.onMap d fun m => m.retire b) d o _ ho hd hs]
    exact setWork_eq_self _ d none hw
  have hlowest : ((counted.onMap d fun m => m.retire b).map d).lowestFree = some c := by
    rw [State.onMap_map_self]; exact hc
  have hreplaced : ((counted.onMap d fun m => m.retire b).onMap d fun m =>
      { m with table := tableAlter m.table n fun e => { e with alternate := c } }) =
        counted.onMap d (alternateReplaced n b c) := onMap_onMap counted d _ _
  simp only [alternateFailed, startedOrder_of_only s d o ho hd hs, hn, hb, Turn.upd, hcounted, hlowest, hreplaced]
  rw [onStarted_of_only (counted.onMap d (alternateReplaced n b c)) d { o with retryCount := o.retryCount + 1 } _ rfl hd
    hs]
  rfl

/-- Settles O53: S5 is entered as its track is on another cylinder; and the lowest index left is the one that was free
next to the failed alternate. -/
theorem sparingVerifyEndEntersS5OrReturnsToS2 : Obligations.SparingVerifyEndEntersS5OrReturnsToS2 := by
  intro s d w result o n b c g hf hw hk hr ho hd hkind hs hb
  have hstarted : o.step ≠ .notStarted := by simp [hs]
  rw [exec_sparingWriteVerifyEnd, complete_of_settled _ _ hf, sparingWriteVerifyEnd_eq s d w result hw hk hr]
  constructor
  · rintro rfl hcyl
    have hplace : { o with step := .s5 }.place = ⟨n / 12, n % 12⟩ := by simp [Order.place, hkind, trackOfNumber]
    rw [if_pos rfl, enterStep_of_away d o .s5 ⟨workTaken d s, []⟩ ho hd hstarted (by simp) (by simp)
      (by rw [hplace]; exact hcyl.symm), hplace]
    exact congrArg Host.Outcome.next (Turn.close_nil _ hf)
  · rintro rfl hcyl hnew hc hcb hfree hleast
    have hlowest : ((s.map d).retire b).lowestFree = some c :=
      lowestFree_eq _ c hc (by simp [isFree_retire, hcb, hfree]) fun a ha => by
        rcases hleast a ha with rfl | hused <;> simp [isFree_retire, *]
    have hfailed : alternateFailed d ⟨workTaken d s, []⟩ =
        ⟨sentToMap d { o with step := .s2, newAlt := some c, retryCount := o.retryCount + 1 }
          (alternateReplaced n b c) s, []⟩ :=
      (alternateFailed_of_only (workTaken d s) d o n b c ho hd hstarted (by simp [Order.track, hkind]) hb
        (workTaken_work d s) hlowest).trans
        (enterStep_of_mapWrite s d { o with newAlt := some c, retryCount := o.retryCount + 1 } .s2 _ hd hstarted
          (.inl rfl) hcyl)
    rw [if_neg (by simp), hfailed]
    refine ⟨_, congrArg _ (Turn.close_nil _ hf), ?_⟩
    rw [← alternateReplaced_eq n b c (s.map d) hnew]
    exact sentToMap_parts d _ _ s

/-! ## The end of S5 (R169, R170) -/

theorem trackNumber_split (n : Nat) : trackNumber ⟨n / 12, n % 12⟩ = n := by
  simp only [trackNumber]; omega

/-- The drive's map after S5: the result's original-unmarked item, and the commit of track `n`. -/
def markedAndCommitted (n b : Nat) (old : Option Nat) (r : WorkResult) (m : DriveMap) : DriveMap :=
  { m with originalUnmarked := originalAfter m.originalUnmarked n r }.commit n b old

theorem markedAndCommitted_eq (n b : Nat) (old : Option Nat) (r : WorkResult) (m : DriveMap)
    (h : ∀ a, old = some a → a ∉ m.retired) :
    markedAndCommitted n b old r m =
      { m with
        table := m.table.map fun e =>
          if e.track = n then { e with alternate := b, state := .committed, former := none } else e
        retired := m.retired ++ old.toList
        originalUnmarked :=
          if r = .failed then some n else if m.originalUnmarked = some n then none else m.originalUnmarked } := by
  have hmark : originalAfter m.originalUnmarked n r =
      if r = .failed then some n else if m.originalUnmarked = some n then none else m.originalUnmarked := by
    cases r <;> rfl
  rw [markedAndCommitted, hmark]
  cases old with
  | none => simp [DriveMap.commit, tableAlter]
  | some a => exact retire_of_new _ a (h a rfl)

/-- The end of S5 taken: the one order enters S6 with its commit. -/
theorem sparingMarkEnd_of_only (s : State) (d : DriveNo) (w : Work) (r : WorkResult) (o : Order) (n b : Nat)
    (hw : s.work d = some w) (hk : w.kind = .sparingMark) (hr : w.result = some r) (ht : w.track = ⟨n / 12, n % 12⟩)
    (ho : s.orders = [o]) (hd : o.drive = d) (hs : o.step ≠ .notStarted) (hn : o.track = some n)
    (hb : o.newAlt = some b) (hcyl : (s.drive d).cylinder ≠ 655) :
    sparingMarkEnd d ⟨s.sending [], []⟩ =
      ⟨sentToMap d { o with step := .s6 } (markedAndCommitted n b o.oldAlt r) s, []⟩ := by
  let marked : State := (workTaken d s).onMap d fun m =>
    { m with originalUnmarked := originalAfter m.originalUnmarked n r }
  have hend : sparingMarkEnd d ⟨s.sending [], []⟩ = enterS6 d ⟨marked, []⟩ := by
    simp only [sparingMarkEnd, workEnd_of_result (s.sending []) d [.sparingMark] w r hw (by simp [hk]) hr, ht,
      trackNumber_split]
    rfl
  have hcommitted : (marked.onMap d fun m => m.commit n b o.oldAlt) =
      State.onMap { s with orders := [o], works := s.works.set d none, out := [] } d
        (markedAndCommitted n b o.oldAlt r) := by
    rw [onMap_onMap, ← ho]; rfl
  have henter : enterS6 d ⟨marked, []⟩ = enterStep d .s6 ⟨marked.onMap d fun m => m.commit n b o.oldAlt, []⟩ := by
    simp only [enterS6, startedOrder_of_only marked d o ho hd hs, hn, hb, Turn.upd]
  rw [hend, henter, hcommitted]
  exact enterStep_of_mapWrite s d o .s6 _ hd hs (.inr rfl) hcyl

/-- Settles O54: the original-unmarked item and the commit are one change of the drive's map, and cylinder 655 is
away. -/
theorem sparingMarkEndCommits : Obligations.SparingMarkEndCommits := by
  intro s d w result o n b g hf hw hk hr ht ho hd hkind hs hb hold hcyl
  rw [exec_sparingMarkEnd, complete_of_settled _ _ hf, sparingMarkEnd_of_only s d w result o n b hw hk hr ht ho hd
    (by simp [hs]) (by simp [Order.track, hkind]) hb hcyl]
  refine ⟨_, congrArg _ (Turn.close_nil _ hf), ?_⟩
  rw [← markedAndCommitted_eq n b o.oldAlt result (s.map d) hold]
  exact sentToMap_parts d _ _ s

/-! ## The order that a SPARE TRACK request places (R161, case 5) -/

/-- A SPARE TRACK request that no check refuses finds its tag not in use at its port (R68, R69). -/
theorem ref_ne_of_admitted (s : State) (p : Port) (m : DriveRequest)
    (h : s.refusal p (.drive .spareTrack m) = none) : ∀ e ∈ s.queue, e.ref ≠ ⟨p, m.tag⟩ := by
  have hlimit : s.overLimit p m.tag = none := by
    simp only [State.refusal] at h
    split at h
    · simp at h
    · exact (Option.or_eq_none_iff.1 h).2
  have huse : s.tagInUse p m.tag = false := by
    cases hused : s.tagInUse p m.tag with
    | false => rfl
    | true => simp [State.overLimit, hused] at hlimit
  intro e he href
  have hport : e.port = p := congrArg EntryRef.port href
  have htag : e.request.tag = m.tag := congrArg EntryRef.tag href
  have hall : ∀ x ∈ s.queue, x.port = p → x.request.tag ≠ m.tag := by
    exact (by simpa [State.tagInUse] using huse : _ ∧ _).1
  exact hall e he hport htag

/-- Without an order for the drive and track none is found (R159). -/
theorem spareOrder_eq_none (s : State) (d : DriveNo) (n : Nat) (h : ∀ o ∈ s.orders, o.drive = d → o.track ≠ some n) :
    s.spareOrder d n = none := by
  refine List.find?_eq_none.2 fun o ho => ?_
  cases hk : o.kind with
  | spare k g =>
    have hne : o.drive = d → k ≠ n := by simpa [Order.track, hk] using h o ho
    simpa [Order.isFor, hk] using hne
  | mapWrite => simp [Order.isFor, hk]

/-- A track without an order gets one at the tail, where there is room (R161, case 5). -/
theorem placeSpareTrack_at_tail (r : EntryRef) (d : DriveNo) (n : Nat) (t : Turn)
    (hmap : (t.st.drive d).mapState ≠ .degraded) (hplaced : n ∉ (t.st.map d).unplaced)
    (horder : t.st.spareOrder d n = none) (hroom : t.st.orders.length < 8) :
    placeSpareTrack r d n t =
      (placeTail (newOrder (.spare n .request) d (some r)) (t.upd fun s => s.referTo r n), false) := by
  have hcontains : (t.st.map d).unplaced.contains n = false := by simpa using hplaced
  simp only [placeSpareTrack, if_neg hmap, hcontains, Bool.false_eq_true, if_false, horder, makeRoom, if_pos hroom]

/-- The entry of an accepted SPARE TRACK request, as it comes to the queue (R70, R76). -/
def spareEntry (p : Port) (m : DriveRequest) : Entry := ⟨p, .spareTrack, m, 0, .queued, none, none, none⟩

/-- The unit that has accepted the request and placed its order, nothing sent out yet. -/
def spareAccepted (p : Port) (m : DriveRequest) (s : State) : State :=
  State.onPort { s with
    queue := s.queue ++ [{ spareEntry p m with orderTrack := some (trackNumber (firstTrack m)) }]
    orders := s.orders ++ [newOrder (.spare (trackNumber (firstTrack m)) .request) m.drive (some ⟨p, m.tag⟩)]
    out := [] } p PortUnit.countIn

/-- The entry that joins the queue is the only one its reference names. -/
theorem referTo_of_new (s : State) (e : Entry) (n : Nat) (h : ∀ x ∈ s.queue, x.ref ≠ e.ref) :
    State.referTo { s with queue := s.queue ++ [e] } e.ref n =
      { s with queue := s.queue ++ [{ e with orderTrack := some n }] } := by
  have hothers : (s.queue.map fun x => if x.ref = e.ref then { x with orderTrack := some n } else x) = s.queue :=
    (List.map_congr_left fun x hx => if_neg (h x hx)).trans (List.map_id' _)
  simp only [State.referTo, State.onEntry, List.map_append, hothers, List.map_cons, List.map_nil, if_true]

/-- The hypotheses of O19: a SPARE TRACK request in range is presented on a free link, for a busy drive that has no
order for its track and a map that can take one, and no check refuses it. -/
structure SpareForBusyDrive (s : State) (p : Port) (m : DriveRequest) : Prop where
  followUps : s.followUps = []
  link : LinkFree s p
  notRefused : s.refusal p (.drive .spareTrack m) = none
  inRange : outOfRange .spareTrack m = false
  online : (s.drive m.drive).state ≠ .offline
  sound : (s.drive m.drive).state ≠ .faulted
  busy : (s.drive m.drive).state ≠ .idle
  map : (s.drive m.drive).mapState ≠ .degraded
  placed : trackNumber (firstTrack m) ∉ (s.map m.drive).unplaced
  noOrder : ∀ o ∈ s.orders, o.drive = m.drive → o.track ≠ some (trackNumber (firstTrack m))
  room : s.orders.length < 8
  unmarked : ∀ e ∈ s.queue, e.port = p → e.mark = none
  noResult : ∀ x ∈ s.results, x.ref.port ≠ p
  noImage : NoImageOrder s

section
variable {s : State} {p : Port} {m : DriveRequest}

theorem SpareForBusyDrive.newEntry_eq (h : SpareForBusyDrive s p m) : s.newEntry p .spareTrack m = spareEntry p m := by
  have hmark : s.acceptMark .spareTrack m = none := by simp [State.acceptMark, h.inRange, h.online, h.sound]
  simp only [State.newEntry, hmark]
  rfl

/-- The exchange's effect: the entry and its order are placed, the reply stands on the link, and what follows is due. -/
theorem SpareForBusyDrive.admitted_eq (h : SpareForBusyDrive s p m) :
    admitted p (.drive .spareTrack m)
        ⟨(s.sending []).onPort p fun u => { u with link := .exchange, reply := none }, []⟩ =
      ⟨((spareAccepted p m s).onPort p fun u => { u with link := .exchange, reply := none }).reply p
        (.answer 3 m.tag .accepted), [.passThrough p m.drive, .offer m.drive, .offer m.drive, .imageCheck]⟩ := by
  let linked : State := (s.sending []).onPort p fun u => { u with link := .exchange, reply := none }
  let queued : State := { linked with queue := s.queue ++ [spareEntry p m] }
  have hentry : linked.newEntry p .spareTrack m = spareEntry p m := h.newEntry_eq
  have haccept : acceptRequest p .spareTrack m ⟨linked, []⟩ =
      ((((placeSpareTrack (spareEntry p m).ref m.drive (trackNumber (firstTrack m)) ⟨queued, []⟩).1.upd fun s =>
        (s.onPort p PortUnit.countIn).answer p (.drive .spareTrack m) .accepted).push (.passThrough p m.drive)).push
          (.offer m.drive)).push .imageCheck := by
    simp only [acceptRequest, hentry]; rfl
  have hplace : placeSpareTrack (spareEntry p m).ref m.drive (trackNumber (firstTrack m)) ⟨queued, []⟩ = _ :=
    placeSpareTrack_at_tail _ m.drive _ ⟨queued, []⟩ h.map h.placed (spareOrder_eq_none s _ _ h.noOrder) h.room
  have hrefer : queued.referTo (spareEntry p m).ref (trackNumber (firstTrack m)) = _ :=
    referTo_of_new linked (spareEntry p m) _ (ref_ne_of_admitted s p m h.notRefused)
  have hcounted : linked.onPort p PortUnit.countIn =
      ((s.sending []).onPort p PortUnit.countIn).onPort p fun u => { u with link := .exchange, reply := none } := by
    rw [State.onPort_onPort, State.onPort_onPort]; rfl
  show acceptRequest p .spareTrack m ⟨linked, []⟩ = _
  rw [haccept, hplace]
  simp only [placeTail, Turn.upd, hrefer]
  refine congrArg (Turn.mk · _) (congrArg (State.reply · p _) ?_)
  exact congrArg (fun u : State => { u with
    queue := (spareAccepted p m s).queue, orders := (spareAccepted p m s).orders }) hcounted

theorem SpareForBusyDrive.linkFree (h : SpareForBusyDrive s p m) : LinkFree (spareAccepted p m s) p := by
  obtain ⟨hlink, hwaiting, hawaits, hreply⟩ := h.link
  have hport : (spareAccepted p m s).port p = (s.port p).countIn := State.onPort_port_self _ p PortUnit.countIn
  exact ⟨by rw [hport]; exact hlink, by rw [hport]; exact hwaiting, hawaits, by rw [hport]; exact hreply⟩

/-- The follow-ups find nothing to do: no entry of the port has a mark or a result, the drive is busy, and no order has
come to S4. -/
theorem SpareForBusyDrive.runTask_eq (h : SpareForBusyDrive s p m) (lingers : Bool) (x : Task)
    (hx : x ∈ [Task.passThrough p m.drive, .offer m.drive, .offer m.drive, .imageCheck]) (rest : List Task) :
    runTask x ⟨(spareAccepted p m s).replying p (.answer 3 m.tag .accepted) lingers, rest⟩ =
      ⟨(spareAccepted p m s).replying p (.answer 3 m.tag .accepted) lingers, rest⟩ := by
  have hreply := Reservations.replying_eq (spareAccepted p m s) p (.answer 3 m.tag .accepted) lingers
  simp only [List.mem_cons, List.not_mem_nil, or_false] at hx
  rcases hx with rfl | rfl | rfl | rfl
  · refine passThrough_waits p m.drive _ fun e he => ?_
    obtain ⟨hmem, hport, -⟩ := State.oldest_mem _ p m.drive e he
    rw [hreply] at hmem ⊢
    have hmark : e.mark = none := by
      rcases List.mem_append.1 hmem with hold | hnew
      · exact h.unmarked e hold hport
      · rw [List.mem_singleton.1 hnew]; rfl
    have hnone : (s.results.find? fun x => x.ref = e.ref) = none :=
      List.find?_eq_none.2 fun x hx heq => h.noResult x hx (by rw [of_decide_eq_true heq]; exact hport)
    have hresult : ((spareAccepted p m s).results.find? fun x => x.ref = e.ref) = none := hnone
    simp only [State.passRecord, hmark, hresult, Option.map_none]
  · exact offer_busy m.drive _ (by rw [hreply]; exact h.busy)
  · exact offer_busy m.drive _ (by rw [hreply]; exact h.busy)
  · refine congrArg (Turn.mk · rest) (imageDispatch_none _ (State.imageOrder_none _ ?_))
    rw [hreply]
    intro o ho
    rcases List.mem_append.1 ho with hold | hnew
    · exact h.noImage o hold
    · rw [List.mem_singleton.1 hnew]; simp [newOrder]

end

/-- Settles O19: the entry and its order are placed, the reply follows, and nothing that is due finds anything to do. -/
theorem spareTrackPlacesRequestOrder : Obligations.SpareTrackPlacesRequestOrder := by
  intro s p m lingers hf hl hx hrange honline hsound hbusy hmap hplaced horders hroom hmarks hresults himage
  have h : SpareForBusyDrive s p m :=
    ⟨hf, hl, hx, hrange, honline, hsound, hbusy, hmap, hplaced, horders, hroom, hmarks, hresults, himage⟩
  rw [exec_spareTrack, Reservations.complete_present_admitted s p _ lingers hf hl hx, h.admitted_eq]
  simp only [Turn.upd, afterExchange_reply (spareAccepted p m s) p _ lingers h.linkFree]
  refine congrArg Host.Outcome.next ((close_of_idle_tasks _ _ ?_ (by simp) (h.runTask_eq lingers)).trans rfl)
  rw [Reservations.replying_eq]
  exact hf

end Sys2Proof.Machine.SparingOperations

/-! SUPPORT. Proofs about SENSE DRIVE: the sense record and its recommended tracks. -/

namespace Sys2Proof.Machine.Sense

/-! ## The sense record (R183) -/

theorem exec_senseDrive (p : Port) (tag : Nat) (d : DriveNo) (lingers : Bool) (s : State) :
    exec (.senseDrive p tag d lingers) s = complete (present p ⟨.sense tag d, lingers⟩) s := rfl

/-- No check refuses SENSE DRIVE for an installed drive: neither its state nor its holder is looked at (R92). -/
theorem refusal_sense_of_installed (s : State) (p : Port) (tag : Nat) (d : DriveNo) (hr : s.stringReset = none)
    (hi : (s.drive d).installed = true) : s.refusal p (.sense tag d) = none := by
  simp [State.refusal, State.resetting, State.noDrive, hr, hi]

/-- A count of a Spare Table is reported as 0 while no map is loaded (R23). -/
theorem count_of_loaded (m : MapState) (n : Nat) :
    (if decide (m ≠ .none) = true then n else 0) = if m = .none then 0 else n := by
  by_cases h : m = .none <;> simp [h]

/-- The sparing in flight is that of the drive's started order, and a MAP-WRITE order is none. -/
theorem sparingInFlight_eq (s : State) (d : DriveNo) :
    s.sparingInFlight d =
      match s.orders.find? fun o => o.drive = d && decide (o.step ≠ .notStarted) with
      | some o => (match o.kind with
        | .spare n _ => some (n, o.step)
        | .mapWrite => none)
      | none => none := by
  have htrack (o : Order) : (o.track.map fun n => (n, o.step)) =
      match o.kind with
      | .spare n _ => some (n, o.step)
      | .mapWrite => none := by
    unfold Order.track
    cases o.kind <;> rfl
  unfold State.sparingInFlight State.startedOrder
  simp only [htrack]
  rfl

/-- The sense record looks neither at what has been sent out nor at the links. -/
theorem senseRecord_onPort (s : State) (l : List Output) (p : Port) (f : PortUnit → PortUnit) (d : DriveNo) :
    ((s.sending l).onPort p f).senseRecord d = s.senseRecord d := rfl

/-- SENSE DRIVE for an installed drive, on a free link: the sense record is the reply, and nothing is due. -/
theorem exec_senseDrive_eq (s : State) (p : Port) (tag : Nat) (d : DriveNo) (lingers : Bool) (hf : s.followUps = [])
    (hl : LinkFree s p) (hr : s.stringReset = none) (hi : (s.drive d).installed = true) :
    exec (.senseDrive p tag d lingers) s =
      .next ((s.sending []).replying p (.senseAnswer tag (s.senseRecord d)) lingers) := by
  rw [exec_senseDrive,
    Reservations.complete_present_admitted s p _ lingers hf hl (refusal_sense_of_installed s p tag d hr hi)]
  simp only [admitted, Turn.upd, State.answerSense, senseRecord_onPort,
    afterExchange_reply (s.sending []) p _ lingers hl]
  exact congrArg Host.Outcome.next (Turn.close_nil _ (by rw [Reservations.replying_eq]; exact hf))

/-- Settles O20: the reply is the sense record, item by item as R183 and R23 give it. -/
theorem senseDriveAnswersSnapshot : Obligations.SenseDriveAnswersSnapshot := by
  intro s p tag d lingers hf hl hr hi
  rw [exec_senseDrive_eq s p tag d lingers hf hl hr hi]
  simp only [State.senseRecord, count_of_loaded, sparingInFlight_eq]
  rfl

/-! ## The recommended tracks (R184) -/

/-- The entry's mark place is not after the other's. -/
def PlacedBefore (e f : HistoryEntry) : Prop := e.place.getD 0 ≤ f.place.getD 0

theorem mem_insertByPlace (e f : HistoryEntry) (l : List HistoryEntry) : f ∈ insertByPlace e l ↔ f = e ∨ f ∈ l := by
  induction l with
  | nil => exact List.mem_cons
  | cons x l ih =>
    unfold insertByPlace
    split
    · exact List.mem_cons
    · rw [List.mem_cons, ih, List.mem_cons, or_left_comm]

theorem insertByPlace_sorted (e : HistoryEntry) (l : List HistoryEntry) (h : l.Pairwise PlacedBefore) :
    (insertByPlace e l).Pairwise PlacedBefore := by
  induction l with
  | nil => exact List.pairwise_singleton PlacedBefore e
  | cons x l ih =>
    obtain ⟨hx, hl⟩ := List.pairwise_cons.1 h
    unfold insertByPlace
    split
    next hle =>
      refine List.pairwise_cons.2 ⟨fun f hf => ?_, h⟩
      rcases List.mem_cons.1 hf with rfl | hf
      · exact hle
      · exact Nat.le_trans hle (hx f hf)
    next hlt =>
      refine List.pairwise_cons.2 ⟨fun f hf => ?_, ih hl⟩
      rcases (mem_insertByPlace e f l).1 hf with rfl | hf
      · exact Nat.le_of_not_le hlt
      · exact hx f hf

theorem mem_foldr_insertByPlace (e : HistoryEntry) (l : List HistoryEntry) :
    e ∈ l.foldr insertByPlace [] ↔ e ∈ l := by
  induction l with
  | nil => rfl
  | cons x l ih => rw [List.foldr_cons, mem_insertByPlace, ih, List.mem_cons]

theorem foldr_insertByPlace_sorted (l : List HistoryEntry) : (l.foldr insertByPlace []).Pairwise PlacedBefore := by
  induction l with
  | nil => exact List.Pairwise.nil
  | cons x l ih => exact insertByPlace_sorted x _ ih

theorem recommendedEntries_sorted (s : State) (d : DriveNo) : (s.recommendedEntries d).Pairwise PlacedBefore :=
  foldr_insertByPlace_sorted _

theorem mem_recommendedEntries (s : State) (d : DriveNo) (e : HistoryEntry) :
    e ∈ s.recommendedEntries d ↔ e ∈ s.history ∧ e.drive = d ∧ e.mark = .recommended := by
  simp only [State.recommendedEntries, mem_foldr_insertByPlace, List.mem_filter, Bool.and_eq_true, decide_eq_true_eq]

/-- What stands in `firsts seen l`: the elements of `l` that have not been seen. -/
theorem mem_firsts (a : Nat) (seen l : List Nat) : a ∈ firsts seen l ↔ a ∈ l ∧ a ∉ seen := by
  induction l generalizing seen with
  | nil => simp [firsts]
  | cons x l ih =>
    unfold firsts
    by_cases hx : x ∈ seen
    · simp only [List.contains_iff_mem, hx, if_true, ih, List.mem_cons]
      grind
    · simp only [List.contains_iff_mem, hx, if_false, ih, List.mem_cons, List.mem_append]
      grind

theorem firsts_nodup (seen l : List Nat) : (firsts seen l).Nodup := by
  induction l generalizing seen with
  | nil => exact List.nodup_nil
  | cons x l ih =>
    unfold firsts
    split
    · exact ih seen
    · exact List.nodup_cons.2 ⟨fun h => ((mem_firsts x _ l).1 h).2 (by simp), ih _⟩

/-- Some entry that names `a` is placed before every entry that names `b`. -/
def NamedBefore (names : HistoryEntry → Nat → Prop) (a b : Nat) : Prop :=
  ∃ e, names e a ∧ ∀ f, names f b → PlacedBefore e f

/-- The first names that sorted entries give are in order. The entries of `l` may be the rest of a longer list: what the
entries before them name has been seen. -/
theorem firsts_filterMap_ordered (names : HistoryEntry → Nat → Prop) (g : HistoryEntry → Option Nat)
    (seen : List Nat) (l : List HistoryEntry) (hsorted : l.Pairwise PlacedBefore)
    (hnames : ∀ e ∈ l, ∀ a, g e = some a → names e a)
    (hrest : ∀ f b, names f b → b ∈ seen ∨ f ∈ l ∧ g f = some b) :
    (firsts seen (l.filterMap g)).Pairwise (NamedBefore names) := by
  induction l generalizing seen with
  | nil => exact List.Pairwise.nil
  | cons e l ih =>
    obtain ⟨he, hl⟩ := List.pairwise_cons.1 hsorted
    have hnamesl : ∀ f ∈ l, ∀ a, g f = some a → names f a := fun f hf => hnames f (List.mem_cons_of_mem e hf)
    cases hg : g e with
    | none =>
      rw [List.filterMap_cons_none hg]
      exact ih seen hl hnamesl fun f b hb => by grind
    | some a =>
      rw [List.filterMap_cons_some hg]
      unfold firsts
      split
      next ha => exact ih seen hl hnamesl fun f b hb => by grind
      next ha =>
        refine List.pairwise_cons.2 ⟨fun b hb => ⟨e, hnames e (by simp) a hg, fun f hf => ?_⟩,
          ih _ hl hnamesl fun f b hb => by grind⟩
        -- A name that has not been seen before `e`, and is not that of `e`, is given by a later entry.
        have hb : b ∉ seen ++ [a] := ((mem_firsts b _ _).1 hb).2
        exact he f (by grind)

/-- Every track that a sense record could recommend: the owners' numbers in order of mark place, each once. -/
def foundTracks (s : State) (d : DriveNo) : List Nat :=
  firsts [] ((s.recommendedEntries d).filterMap fun e => s.owner d e.track)

theorem recommendedTracks_eq_take (s : State) (d : DriveNo) : s.recommendedTracks d = (foundTracks s d).take 4 := rfl

/-- A RECOMMENDED entry of the drive whose track has the logical owner `n` (R28). -/
def Recommends (s : State) (d : DriveNo) (e : HistoryEntry) (n : Nat) : Prop :=
  e ∈ s.history ∧ e.drive = d ∧ e.mark = .recommended ∧ s.owner d e.track = some n

theorem recommends_iff (s : State) (d : DriveNo) (e : HistoryEntry) (n : Nat) :
    Recommends s d e n ↔ e ∈ s.recommendedEntries d ∧ s.owner d e.track = some n := by
  simp [Recommends, mem_recommendedEntries, and_assoc]

theorem mem_foundTracks (s : State) (d : DriveNo) (n : Nat) : n ∈ foundTracks s d ↔ ∃ e, Recommends s d e n := by
  simp [foundTracks, mem_firsts, recommends_iff]

theorem foundTracks_nodup (s : State) (d : DriveNo) : (foundTracks s d).Nodup := firsts_nodup _ _

theorem foundTracks_ordered (s : State) (d : DriveNo) :
    (foundTracks s d).Pairwise (NamedBefore (Recommends s d)) :=
  firsts_filterMap_ordered _ _ _ _ (recommendedEntries_sorted s d)
    (fun e he n hn => (recommends_iff s d e n).2 ⟨he, hn⟩) fun e n h => .inr ((recommends_iff s d e n).1 h)

/-- An element of a list is among its first `k`, or the list has more than `k` and those stand before it. -/
theorem mem_take_or_later {α : Type} (R : α → α → Prop) (l : List α) (k : Nat) (a : α) (hl : l.Pairwise R)
    (ha : a ∈ l) : a ∈ l.take k ∨ (l.take k).length = k ∧ ∀ b ∈ l.take k, R b a := by
  rw [← List.take_append_drop k l] at ha hl
  rcases List.mem_append.1 ha with hfirst | hlater
  · exact .inl hfirst
  · have hlong : 0 < (l.drop k).length := List.length_pos_of_mem hlater
    rw [List.length_drop] at hlong
    exact .inr ⟨List.length_take_of_le (by omega), fun b hb => (List.pairwise_append.1 hl).2.2 b hb a hlater⟩

/-- Settles O21: the tracks found are in order of mark place and none twice, and the first four of them are reported. -/
theorem recommendedTracksOfSense : Obligations.RecommendedTracksOfSense := by
  intro s d names before
  have hfirst : ((foundTracks s d).take 4).Sublist (foundTracks s d) := List.take_sublist 4 _
  rw [recommendedTracks_eq_take]
  exact ⟨List.length_take_le 4 _, (foundTracks_nodup s d).sublist hfirst,
    fun n hn => (mem_foundTracks s d n).1 (hfirst.mem hn), (foundTracks_ordered s d).sublist hfirst,
    fun e n hn => mem_take_or_later before _ 4 n (foundTracks_ordered s d) ((mem_foundTracks s d n).2 ⟨e, hn⟩)⟩

end Sys2Proof.Machine.Sense

/-! SUPPORT. The items that straps set (R185) stand through every command but power-on reset. At the drives they are
standing items; at the Port Units there is one lemma an operation: it leaves what the straps set (`…_portStraps`). -/

namespace Sys2Proof.Machine.StrapItems

open StandingItems (standings)

/-- The items that the straps set at a Port Unit (R185). -/
@[reducible] def portStrap (u : PortUnit) : LinkClass × Bool := (u.linkClass, u.maintenance)

/-- The items that the straps set at the four Port Units. -/
def portStraps (v : Vector PortUnit 4) : Vector (LinkClass × Bool) 4 := v.map portStrap

@[simp] theorem onPort_portStraps (s : State) (p : Port) (f : PortUnit → PortUnit)
    (h : ∀ u, portStrap (f u) = portStrap u) : portStraps (s.onPort p f).ports = portStraps s.ports := by
  refine Vector.ext fun i hi => ?_
  by_cases hp : (portIndex p).val = i
  · subst hp; simp [State.onPort, portStraps, h]
  · simp [State.onPort, portStraps, Vector.getElem_set_ne, hp]

/-! ## Choices and lists of changes -/

@[simp] theorem ite_portStraps (c : Prop) [Decidable c] (s t : State) :
    portStraps (if c then s else t).ports = if c then portStraps s.ports else portStraps t.ports :=
  apply_ite (fun s : State => portStraps s.ports) c s t

@[simp] theorem ite_st_portStraps (c : Prop) [Decidable c] (t u : Turn) :
    portStraps (if c then t else u).st.ports = if c then portStraps t.st.ports else portStraps u.st.ports :=
  apply_ite (fun t : Turn => portStraps t.st.ports) c t u

@[simp] theorem each_portStraps {α : Type} (t : Turn) (l : List α) (f : α → Turn → Turn)
    (h : ∀ x t, portStraps (f x t).st.ports = portStraps t.st.ports) :
    portStraps (t.each l f).st.ports = portStraps t.st.ports := by
  induction l generalizing t with
  | nil => rfl
  | cons x l ih => exact (ih (f x t)).trans (h x t)

@[simp] theorem foldl_portStraps {α : Type} (s : State) (l : List α) (f : State → α → State)
    (h : ∀ s x, portStraps (f s x).ports = portStraps s.ports) :
    portStraps (l.foldl f s).ports = portStraps s.ports := by
  induction l generalizing s with
  | nil => rfl
  | cons x l ih => exact (ih (f s x)).trans (h s x)

@[simp] theorem each_push_portStraps {α : Type} (t : Turn) (l : List α) (g : α → Task) :
    portStraps (t.each l fun x t => t.push (g x)).st.ports = portStraps t.st.ports :=
  each_portStraps t l _ fun _ _ => rfl

/-! ## Drive bus commands (R4) -/

section
variable (s : State) (d : DriveNo)

@[simp] theorem headSelect_portStraps (h : Nat) : portStraps (s.headSelect d h).ports = portStraps s.ports := by
  simp [State.headSelect]

@[simp] theorem sendOffset_portStraps (o : Offset) : portStraps (s.sendOffset d o).ports = portStraps s.ports := by
  simp [State.sendOffset]

@[simp] theorem offset_portStraps (o : Offset) : portStraps (s.offset d o).ports = portStraps s.ports := by
  simp [State.offset]

@[simp] theorem seek_portStraps (c : Nat) : portStraps (s.seek d c).ports = portStraps s.ports := by
  simp [State.seek]

@[simp] theorem recalibrate_portStraps : portStraps (s.recalibrate d).ports = portStraps s.ports := by
  simp [State.recalibrate]

@[simp] theorem recallLoad_portStraps : portStraps (s.recallLoad d).ports = portStraps s.ports := by
  simp [State.recallLoad]

/-! ## Port Units and the Request Queue -/

@[simp] theorem addAttention_portStraps : portStraps (s.addAttention d).ports = portStraps s.ports := by
  simp [State.addAttention, PortUnit.refreshPending]

@[simp] theorem appendRecord_portStraps (p : Port) (r : CompletionRecord) :
    portStraps (s.appendRecord p r).ports = portStraps s.ports :=
  onPort_portStraps _ _ _ fun _ => rfl

@[simp] theorem endConnection_portStraps (p : Port) : portStraps (s.endConnection p).ports = portStraps s.ports := by
  simp [State.endConnection]

@[simp] theorem removeEntry_portStraps (r : EntryRef) : portStraps (s.removeEntry r).ports = portStraps s.ports := rfl

@[simp] theorem holdTouching_portStraps : portStraps (s.holdTouching d).ports = portStraps s.ports := rfl

@[simp] theorem releaseHeld_portStraps (t : Turn) : portStraps (releaseHeld d t).st.ports = portStraps t.st.ports := by
  simp [releaseHeld]

/-! ## The Sparing Queue (9.2) -/

@[simp] theorem onOrder_portStraps (o : Order) (f : Order → Order) :
    portStraps (s.onOrder o f).ports = portStraps s.ports := rfl

@[simp] theorem onStarted_portStraps (f : Order → Order) :
    portStraps (s.onStarted d f).ports = portStraps s.ports := rfl

@[simp] theorem unraise_portStraps (n : Nat) : portStraps (s.unraise d n).ports = portStraps s.ports := rfl

@[simp] theorem committedMarks_portStraps (n : Nat) (v : Track) :
    portStraps (s.committedMarks d n v).ports = portStraps s.ports := rfl

end

theorem makeRoom_portStraps (t u : Turn) (h : makeRoom t = some u) : portStraps u.st.ports = portStraps t.st.ports := by
  unfold makeRoom at h
  split at h
  · cases h; rfl
  · split at h
    · cases h
    · cases h
      simp only [Turn.upd_st]
      split <;> rfl

@[simp] theorem orderLeaves_portStraps (o : Order) (t : Turn) :
    portStraps (orderLeaves o t).st.ports = portStraps t.st.ports := by
  simp only [orderLeaves]; split <;> rfl

@[simp] theorem orderRemoved_portStraps (o : Order) (t : Turn) :
    portStraps (orderRemoved o t).st.ports = portStraps t.st.ports := by
  simp only [orderRemoved, orderLeaves_portStraps]; split <;> rfl

@[simp] theorem giveResult_portStraps (d : DriveNo) (x : SpareResult) (t : Turn) :
    portStraps (giveResult d x t).st.ports = portStraps t.st.ports := by
  simp [giveResult]

@[simp] theorem placeMapWrite_portStraps (d : DriveNo) (t : Turn) :
    portStraps (placeMapWrite d t).st.ports = portStraps t.st.ports := by
  unfold placeMapWrite
  repeat' split
  all_goals rfl

theorem placeRecovery_portStraps (k : Nat) (d : DriveNo) (n : Nat) (r : Option EntryRef) (t u : Turn)
    (h : placeRecovery k d n r t = some u) : portStraps u.st.ports = portStraps t.st.ports := by
  unfold placeRecovery at h
  split at h
  · cases h; rfl
  · obtain ⟨v, hv, rfl⟩ := Option.map_eq_some_iff.1 h
    exact makeRoom_portStraps t v hv

@[simp] theorem fillPlace_portStraps (t : Turn) : portStraps (fillPlace t).st.ports = portStraps t.st.ports := by
  unfold fillPlace
  repeat' split
  case h_1 u hu => exact placeRecovery_portStraps _ _ _ _ t u hu
  all_goals rfl

@[simp] theorem placeSpareTrack_portStraps (r : EntryRef) (d : DriveNo) (n : Nat) (t : Turn) :
    portStraps (placeSpareTrack r d n t).1.st.ports = portStraps t.st.ports := by
  unfold placeSpareTrack
  repeat' split
  next => simp
  next u hu => exact placeRecovery_portStraps _ _ _ _ t u hu
  next => simp
  next => rfl
  next => simp
  next u hu => exact makeRoom_portStraps t u hu
  next => simp

@[simp] theorem placeAwaiting_portStraps (l : List EntryRef) (t : Turn) :
    portStraps (placeAwaiting l t).st.ports = portStraps t.st.ports := by
  induction l generalizing t with
  | nil => rfl
  | cons r l ih =>
    unfold placeAwaiting
    split <;> simp [ih]

@[simp] theorem freedPlace_portStraps (t : Turn) : portStraps (freedPlace t).st.ports = portStraps t.st.ports := by
  simp [freedPlace]

/-! ## The Error History Table (8.5, 8.6) -/

@[simp] theorem candidateRoute_portStraps (d : DriveNo) (v : Track) (n : Nat) (b : Bool) (t : Turn) :
    portStraps (candidateRoute d v n b t).st.ports = portStraps t.st.ports := by
  unfold candidateRoute
  repeat' split
  all_goals rfl

@[simp] theorem candidateRule_portStraps (d : DriveNo) (v : Track) (n : Nat) (b : Bool) (t : Turn) :
    portStraps (candidateRule d v n b t).st.ports = portStraps t.st.ports := by
  unfold candidateRule; split <;> simp

@[simp] theorem recordVisit_portStraps (d : DriveNo) (v : Track) (r : VisitResult) (b : Bool) (t : Turn) :
    portStraps (recordVisit d v r b t).st.ports = portStraps t.st.ports := by
  unfold recordVisit; split <;> simp

@[simp] theorem endVisit_portStraps (d : DriveNo) (v : Option Track) (r : Option VisitResult) (b : Bool) (t : Turn) :
    portStraps (endVisit d v r b t).st.ports = portStraps t.st.ports := by
  unfold endVisit; split <;> simp

/-! ## Reconnect windows and positioning (chapter 3) -/

section
variable (s : State) (d : DriveNo)

@[simp] theorem armWindow_portStraps (b l : Nat) (h : Bool) :
    portStraps (s.armWindow d b l h).ports = portStraps s.ports := by
  rw [State.armWindow_eq]; split <;> rfl

@[simp] theorem disarm_portStraps : portStraps (s.disarm d).ports = portStraps s.ports := rfl

@[simp] theorem onSlot_portStraps (i : Fin 9) (f : Package → Package) :
    portStraps (s.onSlot i f).ports = portStraps s.ports := rfl

@[simp] theorem expireWindow_portStraps : portStraps (s.expireWindow d).ports = portStraps s.ports := by
  rw [Positioning.expireWindow_frame]

@[simp] theorem openAtMark_portStraps : portStraps (s.openAtMark d).ports = portStraps s.ports := by
  rw [Positioning.openAtMark_frame]

@[simp] theorem armHost_portStraps : portStraps (s.armHost d).ports = portStraps s.ports := by
  unfold State.armHost; split <;> simp

@[simp] theorem orient_portStraps : portStraps (s.orient d).ports = portStraps s.ports := by
  simp [State.orient]

@[simp] theorem sendTo_portStraps (v : Track) : portStraps (s.sendTo d v).ports = portStraps s.ports := by
  simp [State.sendTo]

/-! ## Path Control (chapter 6) -/

@[simp] theorem dropActive_portStraps (b : Bool) : portStraps (s.dropActive d b).ports = portStraps s.ports := rfl

@[simp] theorem noteCheck_portStraps (i : Fin 9) (v : Option Track) (r : CompletionRecord) :
    portStraps (s.noteCheck d i v r).ports = portStraps s.ports := by
  unfold State.noteCheck
  repeat' split
  all_goals simp

@[simp] theorem abandonPath_portStraps (p : Package) (i : Fin 9) :
    portStraps (s.abandonPath d p i).ports = portStraps s.ports := by
  simp [State.abandonPath]

@[simp] theorem disconnect_portStraps : portStraps s.disconnect.ports = portStraps s.ports := by
  unfold State.disconnect
  repeat' split
  all_goals simp

@[simp] theorem resume_portStraps (why : Leaving) : portStraps (s.resume d why).ports = portStraps s.ports := by
  unfold State.resume
  repeat' split
  all_goals simp

@[simp] theorem arbiterGrants_portStraps (i : Fin 9) : portStraps (s.arbiterGrants i).ports = portStraps s.ports := rfl

@[simp] theorem openConnection_portStraps (p : Package) :
    portStraps (s.openConnection p).ports = portStraps s.ports := by
  simp [State.openConnection]

@[simp] theorem grant_portStraps (i : Fin 9) : portStraps (s.grant i).ports = portStraps s.ports := by
  simp only [State.grant]
  repeat' split
  all_goals simp

end

@[simp] theorem enterIdle_portStraps (d : DriveNo) (t : Turn) :
    portStraps (enterIdle d t).st.ports = portStraps t.st.ports := by
  simp [enterIdle]

@[simp] theorem imageContextEnded_portStraps (t : Turn) :
    portStraps (imageContextEnded t).st.ports = portStraps t.st.ports := by
  simp [imageContextEnded]

@[simp] theorem completeRequest_portStraps (i : Fin 9) (p : Package) (v : Option Track) (e : Ending) (t : Turn) :
    portStraps (completeRequest i p v e t).st.ports = portStraps t.st.ports := by
  simp [completeRequest]

@[simp] theorem completeConnected_portStraps (e : Ending) (t : Turn) :
    portStraps (completeConnected e t).st.ports = portStraps t.st.ports := by
  unfold completeConnected
  repeat' split
  all_goals simp

@[simp] theorem abandonConnected_portStraps (t : Turn) :
    portStraps (abandonConnected t).st.ports = portStraps t.st.ports := by
  simp only [abandonConnected]
  repeat' split
  all_goals simp

@[simp] theorem abandonSoon_portStraps (t : Turn) : portStraps (abandonSoon t).st.ports = portStraps t.st.ports := by
  simp [abandonSoon]

@[simp] theorem takeExchangeOut_portStraps (t : Turn) :
    portStraps (takeExchangeOut t).st.ports = portStraps t.st.ports := by
  simp only [takeExchangeOut]
  repeat' split
  all_goals simp
  split <;> simp

/-! ## Map operations and sparing (chapters 2 and 9) -/

section
variable (s : State) (d : DriveNo)

@[simp] theorem leaveBuffer_portStraps : portStraps (s.leaveBuffer d).ports = portStraps s.ports := rfl

@[simp] theorem armWork_portStraps : portStraps (s.armWork d).ports = portStraps s.ports := by
  unfold State.armWork; split <;> simp

@[simp] theorem beginWork_portStraps (k : WorkKind) (v : Track) (n : Nat) :
    portStraps (s.beginWork d k v n).ports = portStraps s.ports := by
  simp [State.beginWork]

@[simp] theorem beginS2_portStraps : portStraps (s.beginS2 d).ports = portStraps s.ports := by
  unfold State.beginS2
  repeat' split
  all_goals simp

@[simp] theorem takeBuffer_portStraps (op : MapOp) : portStraps (s.takeBuffer op).ports = portStraps s.ports := by
  simp [State.takeBuffer]

@[simp] theorem askBuffer_portStraps (op : MapOp) : portStraps (s.askBuffer op).ports = portStraps s.ports := by
  simp [State.askBuffer]

@[simp] theorem bufferNext_portStraps : portStraps s.bufferNext.ports = portStraps s.ports := by
  unfold State.bufferNext; split <;> simp

@[simp] theorem beginStep_portStraps (o : Order) : portStraps (s.beginStep d o).ports = portStraps s.ports := by
  unfold State.beginStep; split <;> simp

@[simp] theorem workArrived_portStraps : portStraps (s.workArrived d).ports = portStraps s.ports := by
  simp only [State.workArrived]
  repeat' split
  all_goals simp

@[simp] theorem sendToStep_portStraps : portStraps (s.sendToStep d).ports = portStraps s.ports := by
  unfold State.sendToStep; split <;> simp

@[simp] theorem dropReference_portStraps (r : EntryRef) :
    portStraps (s.dropReference r).ports = portStraps s.ports := rfl

@[simp] theorem setMapState_portStraps (m : MapState) : portStraps (s.setMapState d m).ports = portStraps s.ports := by
  simp [State.setMapState]

@[simp] theorem loadMap_portStraps (l : List SpareEntry) (r : List Nat) (m : MapState) :
    portStraps (s.loadMap d l r m).ports = portStraps s.ports := by
  simp [State.loadMap]

end

section
variable (d : DriveNo) (t : Turn)

@[simp] theorem releaseImage_portStraps : portStraps (releaseImage t).st.ports = portStraps t.st.ports := by
  simp [releaseImage]

@[simp] theorem enterStep_portStraps (k : OrderStep) :
    portStraps (enterStep d k t).st.ports = portStraps t.st.ports := by
  simp [enterStep]

@[simp] theorem enterS3_portStraps : portStraps (enterS3 d t).st.ports = portStraps t.st.ports := by
  simp [enterS3]

@[simp] theorem enterS6_portStraps : portStraps (enterS6 d t).st.ports = portStraps t.st.ports := by
  unfold enterS6
  repeat' split
  all_goals simp

@[simp] theorem answerRequester_portStraps (o : Order) (r : EntryRef → SpareResult) :
    portStraps (answerRequester d o r t).st.ports = portStraps t.st.ports := by
  unfold answerRequester; split <;> simp

@[simp] theorem failOrder_portStraps (c : Condition) :
    portStraps (failOrder d c t).st.ports = portStraps t.st.ports := by
  unfold failOrder
  repeat' split
  all_goals simp

@[simp] theorem finishOrder_portStraps : portStraps (finishOrder d t).st.ports = portStraps t.st.ports := by
  unfold finishOrder
  repeat' split
  all_goals simp

@[simp] theorem alternateFailed_portStraps : portStraps (alternateFailed d t).st.ports = portStraps t.st.ports := by
  simp only [alternateFailed]
  repeat' split
  all_goals simp

@[simp] theorem finishMapWrite_portStraps (o : Order) :
    portStraps (finishMapWrite d o t).st.ports = portStraps t.st.ports := by
  simp [finishMapWrite]

@[simp] theorem orderLost_portStraps : portStraps (orderLost d t).st.ports = portStraps t.st.ports := by
  simp only [orderLost]
  repeat' split
  all_goals simp

@[simp] theorem detachEntry_portStraps (r : EntryRef) :
    portStraps (detachEntry r t).st.ports = portStraps t.st.ports := by
  simp only [detachEntry]; split <;> simp

@[simp] theorem sparingUnavailable_portStraps (r : EntryRef) :
    portStraps (sparingUnavailable d r t).st.ports = portStraps t.st.ports := by
  simp [sparingUnavailable]

@[simp] theorem restoreOthers_portStraps : portStraps (restoreOthers d t).st.ports = portStraps t.st.ports := by
  simp only [restoreOthers, releaseHeld_portStraps, Turn.upd_st, State.onMap_ports]
  exact foldl_portStraps _ _ _ fun _ _ => rfl

@[simp] theorem mapDegraded_portStraps (b : Bool) :
    portStraps (mapDegraded d b t).st.ports = portStraps t.st.ports := by
  simp only [mapDegraded]
  refine (each_portStraps _ _ _ fun o t => by simp).trans ?_
  refine (each_portStraps _ _ _ fun r t => by simp).trans ?_
  refine (each_portStraps _ _ _ fun o t => by split <;> simp).trans ?_
  split <;> simp

@[simp] theorem enterS1_portStraps (n : Nat) : portStraps (enterS1 d n t).st.ports = portStraps t.st.ports := by
  simp only [enterS1]; split <;> simp

@[simp] theorem startOrder_portStraps (o : Order) : portStraps (startOrder o t).st.ports = portStraps t.st.ports := by
  simp only [startOrder]
  repeat' split
  all_goals simp

@[simp] theorem placeRecoveries_portStraps (k : Nat) (l : List Nat) :
    portStraps (placeRecoveries d k l t).st.ports = portStraps t.st.ports := by
  induction l generalizing k t with
  | nil => rfl
  | cons n l ih =>
    unfold placeRecoveries
    split
    next u hu => exact (ih u (k + 1)).trans (placeRecovery_portStraps _ _ _ _ t u hu)
    next => exact ih _ k

@[simp] theorem loadEnds_portStraps (r : WorkResult) :
    portStraps (loadEnds d r t).st.ports = portStraps t.st.ports := by
  simp [loadEnds]

@[simp] theorem mapLoadEnd_portStraps : portStraps (mapLoadEnd d t).st.ports = portStraps t.st.ports := by
  unfold mapLoadEnd; split <;> simp

@[simp] theorem mapWriteEnds_portStraps (o : Order) (ok : Bool) :
    portStraps (mapWriteEnds d o ok t).st.ports = portStraps t.st.ports := by
  unfold mapWriteEnds; split <;> simp

@[simp] theorem mapWriteEnd_portStraps : portStraps (mapWriteEnd d t).st.ports = portStraps t.st.ports := by
  simp only [mapWriteEnd]
  repeat' split
  all_goals simp

@[simp] theorem sparingReadEnd_portStraps : portStraps (sparingReadEnd d t).st.ports = portStraps t.st.ports := by
  unfold sparingReadEnd; split <;> simp

@[simp] theorem sparingWriteVerifyEnd_portStraps :
    portStraps (sparingWriteVerifyEnd d t).st.ports = portStraps t.st.ports := by
  unfold sparingWriteVerifyEnd; split <;> simp

@[simp] theorem sparingMarkEnd_portStraps : portStraps (sparingMarkEnd d t).st.ports = portStraps t.st.ports := by
  unfold sparingMarkEnd; split <;> simp

@[simp] theorem anyWorkEnd_portStraps : portStraps (anyWorkEnd d t).st.ports = portStraps t.st.ports := by
  simp [anyWorkEnd]

/-! ## What is due at the connected context -/

@[simp] theorem imageStall_portStraps : portStraps (imageStall t).st.ports = portStraps t.st.ports := by
  unfold imageStall; split <;> rfl

@[simp] theorem linkTimedOut_portStraps : portStraps (linkTimedOut t).st.ports = portStraps t.st.ports := by
  simp [linkTimedOut]

@[simp] theorem exchangeOutNow_portStraps : portStraps (exchangeOutNow t).st.ports = portStraps t.st.ports := by
  simp [exchangeOutNow]

@[simp] theorem takeDue_portStraps : portStraps (takeDue d t).st.ports = portStraps t.st.ports := by
  simp [takeDue]

@[simp] theorem cutRecording_portStraps (s : State) : portStraps s.cutRecording.ports = portStraps s.ports := by
  unfold State.cutRecording
  repeat' split
  all_goals rfl

end

/-! ## The disk side of a connected host request (chapters 6 to 8) -/

section
variable (s : State) (d : DriveNo)

@[simp] theorem setDisk_portStraps (x : DiskSide) : portStraps (s.setDisk x).ports = portStraps s.ports := rfl

@[simp] theorem leave_portStraps (why : Leaving) : portStraps (s.leave why).ports = portStraps s.ports := rfl

@[simp] theorem endLadder_portStraps : portStraps (s.endLadder d).ports = portStraps s.ports := by
  simp [State.endLadder]

@[simp] theorem takeHeld_portStraps : portStraps s.takeHeld.ports = portStraps s.ports := by
  unfold State.takeHeld
  repeat' split
  all_goals simp

@[simp] theorem headSwitch_portStraps (a : Active) : portStraps (s.headSwitch d a).ports = portStraps s.ports := by
  simp only [State.headSwitch]; split <;> simp

@[simp] theorem advanceDisk_portStraps : portStraps s.advanceDisk.ports = portStraps s.ports := by
  simp only [State.advanceDisk]; split <;> simp

@[simp] theorem addConditions_portStraps (l : List Condition) :
    portStraps (s.addConditions l).ports = portStraps s.ports := rfl

@[simp] theorem noteVisit_portStraps (r : VisitResult) : portStraps (s.noteVisit r).ports = portStraps s.ports := rfl

@[simp] theorem doubtRotation_portStraps (b : Bool) : portStraps (s.doubtRotation d b).ports = portStraps s.ports := by
  simp [State.doubtRotation]

@[simp] theorem recoverMismatch_portStraps (v : Track) :
    portStraps (s.recoverMismatch d v).ports = portStraps s.ports := by
  simp [State.recoverMismatch]

@[simp] theorem pacingLoss_portStraps (a : Active) (p : Package) :
    portStraps (s.pacingLoss a p).ports = portStraps s.ports := by
  simp only [State.pacingLoss]; split <;> rfl

@[simp] theorem ringPush_portStraps (x : RingSlot) : portStraps (s.ringPush x).ports = portStraps s.ports := rfl

@[simp] theorem ringHead_portStraps (f : RingSlot → RingSlot) :
    portStraps (s.ringHead f).ports = portStraps s.ports := rfl

@[simp] theorem beginBlock_portStraps (b : Bool) (f : Option IdField) :
    portStraps (s.beginBlock b f).ports = portStraps s.ports := rfl

@[simp] theorem takeBlock_portStraps (a : Active) (p : Package) (v : Track) (b : Bool) (f : Option IdField) :
    portStraps (s.takeBlock a p v b f).ports = portStraps s.ports := by
  simp [State.takeBlock]

@[simp] theorem countRetryWait_portStraps (a : Active) :
    portStraps (s.countRetryWait a).ports = portStraps s.ports := by
  simp [State.countRetryWait]

@[simp] theorem drainLoss_portStraps (a : Active) (p : Package) :
    portStraps (s.drainLoss a p).ports = portStraps s.ports := by
  unfold State.drainLoss; split <;> rfl

@[simp] theorem ringTail_portStraps (f : RingSlot → RingSlot) :
    portStraps (s.ringTail f).ports = portStraps s.ports := rfl

@[simp] theorem advanceLadder_portStraps (a : Active) (p : Package) :
    portStraps (s.advanceLadder a p).ports = portStraps s.ports := by
  simp [State.advanceLadder]

@[simp] theorem notePass_portStraps (n : Nat) : portStraps (s.notePass n).ports = portStraps s.ports := by
  simp [State.notePass]

@[simp] theorem recordHost_portStraps (a : Active) (v : Track) (c : Content) :
    portStraps (s.recordHost a v c).ports = portStraps s.ports := rfl

@[simp] theorem ringDropHead_portStraps : portStraps s.ringDropHead.ports = portStraps s.ports := rfl

/-! ## The port side (R124, R127, R137) -/

@[simp] theorem portIdle_portStraps : portStraps s.portIdle.ports = portStraps s.ports := rfl

@[simp] theorem portCarry_portStraps (n : Nat) : portStraps (s.portCarry n).ports = portStraps s.ports := rfl

@[simp] theorem arrive_portStraps (p : Package) (b : BlockData) :
    portStraps (s.arrive p b).ports = portStraps s.ports := by
  simp [State.arrive]

@[simp] theorem carryHead_portStraps (p : Package) : portStraps (s.carryHead p).ports = portStraps s.ports := by
  unfold State.carryHead; split <;> rfl

@[simp] theorem abandonedPort_portStraps (p : Package) (b : BlockData) :
    portStraps (s.abandonedPort p b).ports = portStraps s.ports := by
  simp [State.abandonedPort]

@[simp] theorem askNext_portStraps (a : Active) (p : Package) :
    portStraps (s.askNext a p).ports = portStraps s.ports := by
  simp [State.askNext]

end

section
variable (t : Turn) (a : Active) (p : Package) (v : Track) (input : MarkInput)

@[simp] theorem beginVerify_portStraps : portStraps (beginVerify p t).st.ports = portStraps t.st.ports := by
  simp [beginVerify]

@[simp] theorem finishBlock_portStraps : portStraps (finishBlock v t).st.ports = portStraps t.st.ports := by
  simp only [finishBlock]
  repeat' split
  all_goals simp

@[simp] theorem endByCondition_portStraps (l : List Condition) :
    portStraps (endByCondition l t).st.ports = portStraps t.st.ports := by
  unfold endByCondition
  repeat' split
  all_goals simp

@[simp] theorem hostMismatch_portStraps (b : Bool) :
    portStraps (hostMismatch a v b t).st.ports = portStraps t.st.ports := by
  simp only [hostMismatch]; split <;> simp

@[simp] theorem visitBlock_portStraps : portStraps (visitBlock v p t).st.ports = portStraps t.st.ports := by
  simp [visitBlock]

@[simp] theorem adopt_portStraps (n : Nat) : portStraps (adopt a n t).st.ports = portStraps t.st.ports := by
  simp only [adopt]; split <;> simp

@[simp] theorem hostField_portStraps (x : FieldVerdict) :
    portStraps (hostField a p v x t).st.ports = portStraps t.st.ports := by
  cases x with
  | lost => simp only [hostField]; split <;> simp
  | _ => simp [hostField]

@[simp] theorem startHostBlock_portStraps :
    portStraps (startHostBlock a p input t).st.ports = portStraps t.st.ports := by
  simp only [startHostBlock]
  repeat' split
  all_goals simp

@[simp] theorem failHostBlock_portStraps : portStraps (failHostBlock a p t).st.ports = portStraps t.st.ports := by
  simp [failHostBlock, State.ringDropTail]

@[simp] theorem passHostBlock_portStraps (c : Content) :
    portStraps (passHostBlock a p v c t).st.ports = portStraps t.st.ports := by
  simp [passHostBlock]

@[simp] theorem endHostBlock_portStraps : portStraps (endHostBlock a p input t).st.ports = portStraps t.st.ports := by
  unfold endHostBlock; split <;> simp

@[simp] theorem endAbandonedBlock_portStraps :
    portStraps (endAbandonedBlock a p t).st.ports = portStraps t.st.ports := by
  unfold endAbandonedBlock; split <;> simp

@[simp] theorem carried_portStraps : portStraps (carried p t).st.ports = portStraps t.st.ports := by
  unfold carried; split <;> simp

@[simp] theorem imageCarried_portStraps : portStraps (imageCarried p t).st.ports = portStraps t.st.ports := by
  simp [imageCarried]

@[simp] theorem imageAbandoned_portStraps : portStraps (imageAbandoned p t).st.ports = portStraps t.st.ports := by
  simp [imageAbandoned]

@[simp] theorem endPortBlock_portStraps : portStraps (endPortBlock a p input t).st.ports = portStraps t.st.ports := by
  simp [endPortBlock]

@[simp] theorem drainNext_portStraps : portStraps (drainNext p t).st.ports = portStraps t.st.ports := by
  unfold drainNext; split <;> simp

@[simp] theorem imageNext_portStraps : portStraps (imageNext p t).st.ports = portStraps t.st.ports := by
  simp [imageNext]

@[simp] theorem beginPortBlock_portStraps : portStraps (beginPortBlock a p t).st.ports = portStraps t.st.ports := by
  simp [beginPortBlock]

end

/-! ## The blocks of a connected work context -/

section
variable (s : State) (d : DriveNo) (w : Work)

@[simp] theorem returnWork_portStraps (f : Work → Work) :
    portStraps (s.returnWork d f).ports = portStraps s.ports := by
  unfold State.returnWork
  repeat' split
  all_goals simp

@[simp] theorem endWork_portStraps (r : WorkResult) : portStraps (s.endWork d r).ports = portStraps s.ports := by
  simp [State.endWork]

@[simp] theorem secondPass_portStraps (k : WorkKind) (n : Nat) :
    portStraps (s.secondPass d k n).ports = portStraps s.ports := by
  simp [State.secondPass]

@[simp] theorem workPassEnds_portStraps : portStraps (s.workPassEnds d w).ports = portStraps s.ports := by
  unfold State.workPassEnds; split <;> simp

@[simp] theorem workBlockDone_portStraps : portStraps (s.workBlockDone d w).ports = portStraps s.ports := by
  simp [State.workBlockDone]

@[simp] theorem setImage_portStraps (b : Nat) (g : ImageTag) (c : Content) :
    portStraps (s.setImage b g c).ports = portStraps s.ports := by
  unfold State.setImage; split <;> rfl

@[simp] theorem setUnreadable_portStraps (b : Nat) : portStraps (s.setUnreadable b).ports = portStraps s.ports := by
  simp [State.setUnreadable]

@[simp] theorem noteWorkVisit_portStraps (r : VisitResult) :
    portStraps (s.noteWorkVisit r).ports = portStraps s.ports := rfl

@[simp] theorem keepWork_portStraps (b n : Nat) (c : Content) :
    portStraps (s.keepWork w b n c).ports = portStraps s.ports := by
  unfold State.keepWork; split <;> simp

@[simp] theorem recordWork_portStraps (b : Nat) : portStraps (s.recordWork d w b).ports = portStraps s.ports := by
  simp only [State.recordWork]; split <;> rfl

@[simp] theorem failWorkBlock_portStraps (b : Nat) :
    portStraps (s.failWorkBlock d w b).ports = portStraps s.ports := by
  simp [State.failWorkBlock]

@[simp] theorem endWorkBlock_portStraps (a : Active) (input : MarkInput) :
    portStraps (s.endWorkBlock a w input).ports = portStraps s.ports := by
  simp [State.endWorkBlock]

@[simp] theorem workMismatch_portStraps (v : Track) (b : Bool) :
    portStraps (s.workMismatch d v b).ports = portStraps s.ports := by
  simp [State.workMismatch]

@[simp] theorem visitWork_portStraps : portStraps (s.visitWork w).ports = portStraps s.ports := by
  simp [State.visitWork]

@[simp] theorem startWorkBlock_portStraps (a : Active) (input : MarkInput) :
    portStraps (s.startWorkBlock a w input).ports = portStraps s.ports := by
  simp only [State.startWorkBlock]; split <;> simp

end

/-! ## The stages of one mark (R122) -/

section
variable (s : State) (d : DriveNo) (t : Turn) (input : MarkInput)

@[simp] theorem stageDiskEnd_portStraps : portStraps (stageDiskEnd input t).st.ports = portStraps t.st.ports := by
  unfold stageDiskEnd
  repeat' split
  all_goals simp

@[simp] theorem stagePortEnd_portStraps : portStraps (stagePortEnd input t).st.ports = portStraps t.st.ports := by
  unfold stagePortEnd
  repeat' split
  all_goals simp

@[simp] theorem stageDiskStart_portStraps : portStraps (stageDiskStart input t).st.ports = portStraps t.st.ports := by
  unfold stageDiskStart
  repeat' split
  all_goals simp

@[simp] theorem stagePortStart_portStraps : portStraps (stagePortStart t).st.ports = portStraps t.st.ports := by
  unfold stagePortStart
  repeat' split
  all_goals simp

@[simp] theorem stageEnded_portStraps : portStraps (stageEnded t).st.ports = portStraps t.st.ports := by
  unfold stageEnded; split <;> simp

@[simp] theorem closeDrained_portStraps : portStraps s.closeDrained.ports = portStraps s.ports := by
  unfold State.closeDrained
  repeat' split
  all_goals simp

@[simp] theorem exchangeIn_portStraps (a : Active) : portStraps (s.exchangeIn a).ports = portStraps s.ports := by
  simp only [State.exchangeIn]
  repeat' split
  all_goals simp

@[simp] theorem becomeReady_portStraps : portStraps s.becomeReady.ports = portStraps s.ports := rfl

@[simp] theorem stages_portStraps : portStraps (stages input t).st.ports = portStraps t.st.ports := by
  simp [stages]

@[simp] theorem dataPathMark_portStraps : portStraps (dataPathMark d input t).st.ports = portStraps t.st.ports := by
  unfold dataPathMark
  repeat' split
  all_goals simp

@[simp] theorem freePath_portStraps : portStraps (s.freePath d).ports = portStraps s.ports := by
  simp [State.freePath]

@[simp] theorem afterMark_portStraps : portStraps (afterMark d input t).st.ports = portStraps t.st.ports := by
  simp [afterMark]

@[simp] theorem offerDeferred_portStraps : portStraps (offerDeferred d t).st.ports = portStraps t.st.ports := by
  simp [offerDeferred]

/-! ## Positioner Control (1.4) -/

@[simp] theorem markNotReady_portStraps : portStraps (markNotReady d t).st.ports = portStraps t.st.ports := by
  simp [markNotReady]

@[simp] theorem endDispatched_portStraps (e : Ending) :
    portStraps (endDispatched d e t).st.ports = portStraps t.st.ports := by
  unfold endDispatched; split <;> simp

@[simp] theorem becomeFaulted_portStraps : portStraps (becomeFaulted d t).st.ports = portStraps t.st.ports := by
  simp [becomeFaulted]

@[simp] theorem positionFailure_portStraps : portStraps (positionFailure d t).st.ports = portStraps t.st.ports := by
  simp [positionFailure]

@[simp] theorem reseek_portStraps (v : Track) : portStraps (s.reseek d v).ports = portStraps s.ports := by
  simp [State.reseek]

@[simp] theorem recalibrated_portStraps : portStraps (recalibrated d t).st.ports = portStraps t.st.ports := by
  simp only [recalibrated]
  repeat' split
  all_goals simp

@[simp] theorem arrived_portStraps : portStraps (arrived d t).st.ports = portStraps t.st.ports := by
  simp [arrived]

@[simp] theorem seekAnswered_portStraps (c : Nat) :
    portStraps (seekAnswered d c t).st.ports = portStraps t.st.ports := by
  simp [seekAnswered]

@[simp] theorem positioned_portStraps (c : Nat) : portStraps (positioned d c t).st.ports = portStraps t.st.ports := by
  unfold positioned; split <;> simp

@[simp] theorem seekTimedOut_portStraps : portStraps (seekTimedOut d t).st.ports = portStraps t.st.ports := by
  simp [seekTimedOut]

@[simp] theorem recalibrationTimedOut_portStraps :
    portStraps (recalibrationTimedOut d t).st.ports = portStraps t.st.ports := by
  simp [recalibrationTimedOut]

@[simp] theorem readyRises_portStraps : portStraps (readyRises d t).st.ports = portStraps t.st.ports := by
  simp [readyRises]

@[simp] theorem connectedLost_portStraps : portStraps (connectedLost d t).st.ports = portStraps t.st.ports := by
  unfold connectedLost
  repeat' split
  all_goals simp

@[simp] theorem imageContextLost_portStraps : portStraps (imageContextLost d t).st.ports = portStraps t.st.ports := by
  unfold imageContextLost; split <;> simp

@[simp] theorem mapUnloaded_portStraps : portStraps (mapUnloaded d t).st.ports = portStraps t.st.ports := by
  simp [mapUnloaded]

@[simp] theorem goOffline_portStraps : portStraps (s.goOffline d).ports = portStraps s.ports := by
  simp only [State.goOffline]; split <;> simp

@[simp] theorem readyFalls_portStraps : portStraps (readyFalls d t).st.ports = portStraps t.st.ports := by
  simp [readyFalls]

@[simp] theorem leaveAtOnce_portStraps : portStraps (s.leaveAtOnce d).ports = portStraps s.ports := by
  simp [State.leaveAtOnce]

@[simp] theorem recalibrateIdle_portStraps : portStraps (s.recalibrateIdle d).ports = portStraps s.ports := by
  simp [State.recalibrateIdle]

@[simp] theorem abandonAtFault_portStraps : portStraps (s.abandonAtFault d).ports = portStraps s.ports := by
  unfold State.abandonAtFault
  repeat' split
  all_goals simp

@[simp] theorem faultConnected_portStraps : portStraps (faultConnected d t).st.ports = portStraps t.st.ports := by
  unfold faultConnected; split <;> simp

@[simp] theorem positionFaulted_portStraps : portStraps (positionFaulted d t).st.ports = portStraps t.st.ports := by
  simp only [positionFaulted]
  repeat' split
  all_goals simp

@[simp] theorem doubtBlock_portStraps (a : Active) : portStraps (s.doubtBlock a).ports = portStraps s.ports := by
  unfold State.doubtBlock; split <;> simp

@[simp] theorem keepMarkField_portStraps (w : Work) : portStraps (s.keepMarkField w).ports = portStraps s.ports := by
  simp [State.keepMarkField]

@[simp] theorem writeFaulted_portStraps : portStraps (writeFaulted d t).st.ports = portStraps t.st.ports := by
  simp only [writeFaulted]
  repeat' split
  all_goals simp

/-! ## Follow-ups -/

@[simp] theorem dispatchTo_portStraps (e : Entry) (i : Fin 9) (p : Package) :
    portStraps (s.dispatchTo e i p).ports = portStraps s.ports := rfl

@[simp] theorem countBypass_portStraps (l : List EntryRef) :
    portStraps (s.countBypass l).ports = portStraps s.ports := rfl

@[simp] theorem dispatchEntry_portStraps (e : Entry) : portStraps (s.dispatchEntry d e).ports = portStraps s.ports := by
  simp [State.dispatchEntry]

@[simp] theorem choose_portStraps : portStraps (s.choose d).ports = portStraps s.ports := by
  unfold State.choose
  repeat' split
  all_goals simp

@[simp] theorem offer_portStraps : portStraps (offer d t).st.ports = portStraps t.st.ports := by
  unfold offer
  repeat' split
  all_goals simp

@[simp] theorem passThrough_portStraps (p : Port) :
    portStraps (passThrough p d t).st.ports = portStraps t.st.ports := by
  unfold passThrough
  repeat' split
  all_goals simp

@[simp] theorem imageDispatch_portStraps : portStraps s.imageDispatch.ports = portStraps s.ports := by
  unfold State.imageDispatch
  repeat' split
  all_goals simp

@[simp] theorem imageFreed_portStraps : portStraps (imageFreed t).st.ports = portStraps t.st.ports := by
  unfold imageFreed; split <;> simp

/-- Every follow-up keeps what the straps set at the Port Units. -/
@[simp] theorem runTask_portStraps (x : Task) : portStraps (runTask x t).st.ports = portStraps t.st.ports := by
  cases x <;> simp [runTask]

@[simp] theorem settle_portStraps (n : Nat) : portStraps (settle n t).st.ports = portStraps t.st.ports :=
  settle_induction (fun s => portStraps s.ports = portStraps t.st.ports)
    (fun x u h => (runTask_portStraps u x).trans h) n t rfl

@[simp] theorem start_portStraps : portStraps (Turn.start s).st.ports = portStraps s.ports :=
  settle_portStraps _ 1000

@[simp] theorem close_portStraps : portStraps t.close.ports = portStraps t.st.ports :=
  settle_portStraps t 1000

/-! ## The unit's own steps and port reset -/

@[simp] theorem grantNext_portStraps : portStraps (grantNext t).st.ports = portStraps t.st.ports := by
  unfold grantNext; split <;> simp

@[simp] theorem takeAway_portStraps : portStraps (takeAway d t).st.ports = portStraps t.st.ports := by
  unfold takeAway; split <;> simp

@[simp] theorem takeAwayImage_portStraps : portStraps (takeAwayImage t).st.ports = portStraps t.st.ports := by
  simp [takeAwayImage]

@[simp] theorem dueConnected_portStraps : portStraps (dueConnected t).st.ports = portStraps t.st.ports := by
  unfold dueConnected; split <;> simp

@[simp] theorem dropPort_portStraps (p : Port) : portStraps (s.dropPort p).ports = portStraps s.ports := rfl

@[simp] theorem entryTaken_portStraps (e : Entry) : portStraps (entryTaken e t).st.ports = portStraps t.st.ports := by
  simp [entryTaken]

@[simp] theorem portResetTaken_portStraps (p : Port) :
    portStraps (portResetTaken p t).st.ports = portStraps t.st.ports := by
  have hunit (v : Vector Bool 8) (u : PortUnit) : portStrap (u.afterPortReset v) = portStrap u := rfl
  simp [portResetTaken, hunit]

end

/-! ## The straps of the unit (R185) -/

/-- The items that the straps set at a drive (R185). -/
@[reducible] def driveStrap (r : DriveRecord) : Bool × Bool := (r.installed, r.autoSparing)

/-- The items that the straps set at the eight drives. -/
def driveStraps (v : Vector DriveRecord 8) : Vector (Bool × Bool) 8 := v.map driveStrap

/-- Every item of the unit that a strap sets. -/
def straps (s : State) : Vector (Bool × Bool) 8 × Vector (LinkClass × Bool) 4 :=
  (driveStraps s.drives, portStraps s.ports)

theorem sameStraps_of_straps (s t : State) (h : straps s = straps t) : SameStraps s t := by
  obtain ⟨hdrives, hports⟩ := Prod.mk.inj h
  constructor
  · intro d
    have hd : (driveStraps s.drives)[d] = (driveStraps t.drives)[d] := by rw [hdrives]
    simpa [driveStraps, State.drive, SameDriveStraps] using hd
  · intro p
    have hp : (portStraps s.ports)[portIndex p] = (portStraps t.ports)[portIndex p] := by rw [hports]
    simpa [portStraps, State.port, SamePortStraps] using hp

/-- The straps of the drives are standing items of their records. -/
theorem driveStraps_of_standings (v w : Vector DriveRecord 8) (h : standings v = standings w) :
    driveStraps v = driveStraps w := by
  have hmap (v : Vector DriveRecord 8) :
      driveStraps v = (standings v).map fun x => (x.installed, x.autoSparing) := by
    simp [driveStraps, standings, Function.comp_def]
  rw [hmap, hmap, h]

theorem straps_of_standings (s t : State) (hd : standings s.drives = standings t.drives)
    (hp : portStraps s.ports = portStraps t.ports) : straps s = straps t := by
  rw [straps, straps, driveStraps_of_standings _ _ hd, hp]

@[simp] theorem onDrive_straps (s : State) (d : DriveNo) (f : DriveRecord → DriveRecord)
    (h : ∀ r, driveStrap (f r) = driveStrap r) : straps (s.onDrive d f) = straps s :=
  Prod.ext (StandingItems.map_onDrive driveStrap s d f h) rfl

@[simp] theorem onPort_straps (s : State) (p : Port) (f : PortUnit → PortUnit)
    (h : ∀ u, portStrap (f u) = portStrap u) : straps (s.onPort p f) = straps s :=
  Prod.ext rfl (onPort_portStraps s p f h)

theorem foldl_straps {α : Type} (s : State) (l : List α) (f : State → α → State)
    (h : ∀ s x, straps (f s x) = straps s) : straps (l.foldl f s) = straps s := by
  induction l generalizing s with
  | nil => rfl
  | cons x l ih => exact (ih (f s x)).trans (h s x)

theorem each_straps {α : Type} (t : Turn) (l : List α) (f : α → Turn → Turn)
    (h : ∀ x t, straps (f x t).st = straps t.st) : straps (t.each l f).st = straps t.st := by
  induction l generalizing t with
  | nil => rfl
  | cons x l ih => exact (ih (f x t)).trans (h x t)

theorem whenDo_straps (t : Turn) (b : Bool) (f : Turn → Turn) (h : ∀ t, straps (f t).st = straps t.st) :
    straps (t.whenDo b f).st = straps t.st := by
  unfold Turn.whenDo
  split
  · exact h t
  · rfl

/-! ## Host exchanges (R63–R65) -/

section
variable (s : State) (t : Turn) (p : Port) (d : DriveNo) (x : HostExchange)

@[simp] theorem emit_straps (o : Output) : straps (s.emit o) = straps s := rfl

@[simp] theorem reply_straps (m : Message) : straps (s.reply p m) = straps s := by
  simp [State.reply]

@[simp] theorem answer_straps (r : AnswerResult) : straps (s.answer p x r) = straps s := by
  simp [State.answer]

@[simp] theorem giveReply_straps : straps (s.giveReply p) = straps s := by
  unfold State.giveReply; split <;> simp

@[simp] theorem afterExchange_straps (lingers : Bool) : straps (s.afterExchange p lingers) = straps s := by
  unfold State.afterExchange; split <;> simp

@[simp] theorem endLingering_straps : straps (s.endLingering p) = straps s := by
  unfold State.endLingering; split <;> simp

@[simp] theorem acceptRequest_straps (kind : RequestKind) (m : DriveRequest) :
    straps (acceptRequest p kind m t).st = straps t.st := by
  have hplace (t : Turn) (r : EntryRef) (n : Nat) : straps (placeSpareTrack r m.drive n t).1.st = straps t.st :=
    straps_of_standings _ _ (by simp) (by simp)
  have hcount (u : PortUnit) : portStrap u.countIn = portStrap u := rfl
  simp only [acceptRequest, Turn.push_st, Turn.upd_st, answer_straps, onPort_straps _ _ _ hcount]
  split
  · exact hplace _ _ _
  · rfl

@[simp] theorem withdraw_straps : straps (withdraw p d t).st = straps t.st := by
  have hpush (t : Turn) (l : List Port) : straps (t.each l fun q t => t.push (.passThrough q d)).st = straps t.st :=
    each_straps t l _ fun _ _ => rfl
  have hoffer (t : Turn) (b : Bool) : straps (t.whenDo b fun t => t.push (.offer d)).st = straps t.st :=
    whenDo_straps t b _ fun _ => rfl
  have hdetach (t : Turn) (l : List Entry) : straps (t.each l fun e => detachEntry e.ref).st = straps t.st :=
    each_straps t l _ fun e t => straps_of_standings _ _ (by simp) (by simp)
  simp only [withdraw, hpush, hoffer, hdetach]
  rfl

@[simp] theorem grantReserve_straps : straps (grantReserve p d x t).st = straps t.st := by
  simp [grantReserve]

@[simp] theorem addAttention_straps : straps (s.addAttention d) = straps s :=
  straps_of_standings _ _ rfl (by simp)

@[simp] theorem releaseDrive_straps : straps (s.releaseDrive p d x) = straps s := by
  unfold State.releaseDrive; split <;> simp

@[simp] theorem collect_straps : straps (s.collect p) = straps s := by
  have hcount (u : PortUnit) (l : List CompletionRecord) : portStrap (u.countOut l) = portStrap u := rfl
  unfold State.collect
  repeat' split
  all_goals simp [hcount, PortUnit.refreshPending]

theorem abandonS1_straps : straps (abandonS1 d t).st = straps t.st := by
  simp only [abandonS1]
  repeat' split
  all_goals exact straps_of_standings _ _ (by simp) (by simp)

/-- The quiesce of one drive (R81). -/
theorem quiesce_straps :
    straps (abandonS1 d (takeAway d (t.upd fun s => s.onDrive d fun r => { r with deferred := false }))).st =
      straps t.st := by
  rw [abandonS1_straps]
  exact straps_of_standings _ _ (by simp) (by simp)

@[simp] theorem beginStringReset_straps (tag : Nat) : straps (beginStringReset p tag t).st = straps t.st := by
  have himage (t : Turn) : straps (takeAwayImage t).st = straps t.st :=
    straps_of_standings _ _ (by simp) (by simp)
  rw [beginStringReset, himage, each_straps _ _ _ fun d t => quiesce_straps t d]
  exact straps_of_standings _ _ (by simp) (by simp)

/-- What an admitted Request or Collect does changes no strap. -/
@[simp] theorem admitted_straps : straps (admitted p x t).st = straps t.st := by
  cases x <;> simp [admitted, State.answerSense]

@[simp] theorem takeExchange_straps (x : Presented) : straps (takeExchange p x t).st = straps t.st := by
  simp only [takeExchange, Turn.upd_st, afterExchange_straps]
  split <;> simp

@[simp] theorem takeWaiting_straps : straps (takeWaiting p t).st = straps t.st := by
  unfold takeWaiting; split <;> simp

@[simp] theorem present_straps (x : Presented) : straps (present p x t).st = straps t.st := by
  simp only [present]
  repeat' split
  all_goals simp

/-! ## Completion of a string reset (R83) -/

theorem resetPending_straps : straps s.resetPending = straps s :=
  foldl_straps _ _ _ fun s d => by split <;> rfl

theorem stringResetItems_straps : straps s.stringResetItems = straps s := by
  have hdrives : straps (allDrives.foldl (fun s d => s.onDrive d DriveRecord.afterStringReset) s) = straps s :=
    foldl_straps _ _ _ fun s d => onDrive_straps s d _ fun r => by
      unfold DriveRecord.afterStringReset
      split <;> rfl
  have hports (s : State) (v : Vector Bool 8) :
      straps (allPorts.foldl (fun s p => s.onPort p (PortUnit.afterStringReset v)) s) = straps s :=
    foldl_straps _ _ _ fun s p => onPort_straps s p _ fun _ => rfl
  have hrest (s : State) (l : List Entry) (v : Vector (Option Package) 9) (a : Option Active) (x : DataPath)
      (b : Arbiter) (m : List EntryRef) (r : List SpareResult) (o : List Order) :
      straps { s with
        queue := l, slots := v, active := a, dataPath := x, arbiter := b, awaiting := m, results := r, orders := o } =
      straps s := rfl
  simp only [State.stringResetItems, hrest, hports, resetPending_straps, hdrives]

@[simp] theorem answerReset_straps (r : Option (Port × Nat)) : straps (s.answerReset r) = straps s := by
  unfold State.answerReset; split <;> simp

theorem completeStringReset_straps : straps (completeStringReset t).st = straps t.st := by
  have himage (t : Turn) : straps (imageContextEnded t).st = straps t.st :=
    straps_of_standings _ _ (by simp) (by simp)
  have hremoved (t : Turn) (l : List Order) : straps (t.each l orderRemoved).st = straps t.st :=
    each_straps t l _ fun o t => straps_of_standings _ _ (by simp) (by simp)
  have hoffers (t : Turn) : straps (t.each allDrives fun d t => t.push (.offer d)).st = straps t.st :=
    each_straps t _ _ fun _ _ => rfl
  have hdone (s : State) : straps { s with stringReset := none } = straps s := rfl
  simp only [completeStringReset]
  split
  · simp only [hoffers, Turn.upd_st, answerReset_straps, hdone, hremoved, himage, stringResetItems_straps]
  · rfl

end

/-! ## Marks (R1) -/

theorem takeDue_straps (d : DriveNo) (t : Turn) : straps (takeDue d t).st = straps t.st :=
  straps_of_standings _ _ (by simp) (by simp)

theorem afterMark_straps (d : DriveNo) (input : MarkInput) (t : Turn) : straps (afterMark d input t).st = straps t.st :=
  straps_of_standings _ _ (by simp) (by simp)

theorem sectorMarked_straps (d : DriveNo) (input : MarkInput) (t : Turn) :
    straps (sectorMarked d input t).st = straps t.st := by
  unfold sectorMarked
  split
  · simp [afterMark_straps, takeDue_straps]
  · rfl

theorem indexMarked_straps (d : DriveNo) (input : MarkInput) (t : Turn) :
    straps (indexMarked d input t).st = straps t.st := by
  have hoffer (t : Turn) : straps (offerDeferred d t).st = straps t.st :=
    straps_of_standings _ _ (by simp) (by simp)
  simp only [indexMarked]
  repeat' split
  · rfl
  · simp [hoffer, afterMark_straps, takeDue_straps]
  · rfl

/-! ## Commands (R185) -/

/-- The effect of a command leaves every item that a strap sets. -/
def KeepsStraps (f : Turn → Turn) : Prop := ∀ t, straps (f t).st = straps t.st

/-- The follow-ups that a command takes before and after its effect change no such item. -/
theorem sameStraps_of_complete (f : Turn → Turn) (s t : State) (hf : KeepsStraps f) (h : complete f s = .next t) :
    SameStraps s t := by
  obtain rfl : (f (Turn.start s)).close = t := by simpa [complete] using h
  refine sameStraps_of_straps _ _ ?_
  calc straps s
      = straps (Turn.start s).st := straps_of_standings _ _ (by simp) (by simp)
    _ = straps (f (Turn.start s)).st := (hf _).symm
    _ = straps (f (Turn.start s)).close := straps_of_standings _ _ (by simp) (by simp)

/-- Every command but power-on reset has an effect that keeps the straps. -/
theorem exec_keepsStraps (c : Instr) (hc : ∀ b, c ≠ .powerOnReset b) :
    ∃ f, (∀ s, exec c s = complete f s) ∧ KeepsStraps f := by
  have keeps {f : Turn → Turn} (hexec : ∀ s, exec c s = complete f s)
      (hd : ∀ t, standings (f t).st.drives = standings t.st.drives)
      (hp : ∀ t, portStraps (f t).st.ports = portStraps t.st.ports) :
      ∃ f, (∀ s, exec c s = complete f s) ∧ KeepsStraps f :=
    ⟨f, hexec, fun t => straps_of_standings _ _ (hd t) (hp t)⟩
  have exchange {p : Port} {x : Presented} (hexec : ∀ s, exec c s = complete (present p x) s) :
      ∃ f, (∀ s, exec c s = complete f s) ∧ KeepsStraps f := ⟨present p x, hexec, fun t => present_straps t p x⟩
  cases c with
  | powerOnReset b => exact absurd rfl (hc b)
  | portReset p => exact keeps (f := portResetTaken p) (fun _ => rfl) (by simp) (by simp)
  | readBlocks p m lingers => exact exchange fun _ => rfl
  | writeBlocks p m lingers => exact exchange fun _ => rfl
  | spareTrack p m lingers => exact exchange fun _ => rfl
  | senseDrive p tag d lingers => exact exchange fun _ => rfl
  | reserveDrive p tag d lingers => exact exchange fun _ => rfl
  | releaseDrive p tag d lingers => exact exchange fun _ => rfl
  | resetString p tag lingers => exact exchange fun _ => rfl
  | unknownKindRequest p kindCode tag lingers => exact exchange fun _ => rfl
  | collect p lingers => exact exchange fun _ => rfl
  | waitingHostExchangeTaken p => exact ⟨_, fun _ => rfl, fun t => takeWaiting_straps t p⟩
  | readyRising d => exact keeps (f := readyRises d) (fun _ => rfl) (by simp) (by simp)
  | readyFalling d => exact keeps (f := readyFalls d) (fun _ => rfl) (by simp) (by simp)
  | positioned d cyl => exact keeps (f := positioned d cyl) (fun _ => rfl) (by simp) (by simp)
  | positionFault d => exact keeps (f := positionFaulted d) (fun _ => rfl) (by simp) (by simp)
  | writeFault d => exact keeps (f := writeFaulted d) (fun _ => rfl) (by simp) (by simp)
  | sectorMark d input => exact ⟨_, fun _ => rfl, sectorMarked_straps d input⟩
  | indexMark d input => exact ⟨_, fun _ => rfl, indexMarked_straps d input⟩
  | seekTimeout d => exact keeps (f := seekTimedOut d) (fun _ => rfl) (by simp) (by simp)
  | recalibrationTimeout d => exact keeps (f := recalibrationTimedOut d) (fun _ => rfl) (by simp) (by simp)
  | windowExpiry d => exact keeps (f := fun t => t.upd fun s => s.expireWindow d) (fun _ => rfl) (by simp) (by simp)
  | linkTimeout => exact keeps (f := linkTimedOut) (fun _ => rfl) (by simp) (by simp)
  | imageServiceStall => exact keeps (f := imageStall) (fun _ => rfl) (by simp) (by simp)
  | arbiterGrant => exact keeps (f := grantNext) (fun _ => rfl) (by simp) (by simp)
  | exchangeOut => exact keeps (f := exchangeOutNow) (fun _ => rfl) (by simp) (by simp)
  | mapBufferTaken => exact keeps (f := fun t => t.upd State.bufferNext) (fun _ => rfl) (by simp) (by simp)
  | mapLoadEnd d => exact keeps (f := mapLoadEnd d) (fun _ => rfl) (by simp) (by simp)
  | mapWriteEnd d => exact keeps (f := mapWriteEnd d) (fun _ => rfl) (by simp) (by simp)
  | sparingReadEnd d => exact keeps (f := sparingReadEnd d) (fun _ => rfl) (by simp) (by simp)
  | sparingWriteVerifyEnd d => exact keeps (f := sparingWriteVerifyEnd d) (fun _ => rfl) (by simp) (by simp)
  | sparingMarkEnd d => exact keeps (f := sparingMarkEnd d) (fun _ => rfl) (by simp) (by simp)
  | stringResetComplete => exact ⟨_, fun _ => rfl, completeStringReset_straps⟩

/-- Settles O6: each of these commands, with its follow-ups, keeps what the straps set. -/
theorem onlyPowerOnResetChangesStraps : Obligations.OnlyPowerOnResetChangesStraps := by
  intro c s t hc ht
  obtain ⟨f, hexec, hf⟩ := exec_keepsStraps c hc
  exact sameStraps_of_complete f s t hf ((hexec s).symm.trans ht)

end Sys2Proof.Machine.StrapItems

/-! SUPPORT. Proofs about the link messages (chapter 11): the fields of a request message read back from its bytes. -/

namespace Sys2Proof.Machine.LinkMessages

/-! ## Bytes and bits (11.1) -/

@[simp] theorem toNat_lowByte (n : Nat) : (lowByte n).toNat = n % 256 := BitVec.toNat_ofNat n 8

theorem getLsbD_lowByte (n : Nat) {i : Nat} (hi : i < 8) : (lowByte n).getLsbD i = n.testBit i := by
  rw [lowByte, BitVec.getLsbD_ofNat, decide_eq_true hi, Bool.true_and]

theorem bitsNat_cons_div_two (b : Bool) (l : List Bool) : bitsNat (b :: l) / 2 = bitsNat l := by
  cases b <;> simp only [bitsNat, Bool.false_eq_true, if_true, if_false] <;> omega

theorem testBit_bitsNat_zero (b : Bool) (l : List Bool) : (bitsNat (b :: l)).testBit 0 = b := by
  rw [Nat.testBit_zero]
  cases b with
  | false => exact decide_eq_false (by simp only [bitsNat, Bool.false_eq_true, if_false]; omega)
  | true => exact decide_eq_true (by simp only [bitsNat, if_true]; omega)

theorem testBit_bitsNat (l : List Bool) (i : Nat) : (bitsNat l).testBit i = l.getD i false := by
  induction l generalizing i with
  | nil => exact Nat.zero_testBit i
  | cons b l ih =>
    cases i with
    | zero => exact testBit_bitsNat_zero b l
    | succ i =>
      rw [Nat.testBit_succ, bitsNat_cons_div_two]
      exact ih i

/-! ## The fields of the request message (11.2) -/

/-- The mode flags in the order of their bits in byte 7. -/
def flagBits (f : ModeFlags) : List Bool :=
  [f.noRetry, f.noOffset, f.sparePermit, f.holdPath, f.showRecovered, f.verifyWrite]

theorem flagsOf_flagsNat (f : ModeFlags) : flagsOf (lowByte (flagsNat f)) = f := by
  have hbit {i : Nat} (hi : i < 8) : (lowByte (flagsNat f)).getLsbD i = (flagBits f).getD i false :=
    (getLsbD_lowByte _ hi).trans (testBit_bitsNat (flagBits f) i)
  simp only [flagsOf, hbit, Nat.reduceLT]
  rfl

/-- Byte 2 holds the drive above the two high bits of a 10-bit cylinder. -/
theorem driveOf_byteTwo (d : DriveNo) {cyl : Nat} (hcyl : cyl < 1024) :
    driveOf (lowByte (d.val * 32 + cyl / 256)) = d := by
  refine Fin.ext ?_
  simp only [driveOf, toNat_lowByte]
  omega

theorem cylinder_of_bytes (d : DriveNo) {cyl : Nat} (hcyl : cyl < 1024) :
    (lowByte (d.val * 32 + cyl / 256)).toNat % 4 * 256 + (lowByte cyl).toNat = cyl := by
  simp only [toNat_lowByte]
  omega

/-- A field alone in the low bits of its byte reads back. -/
theorem lowByte_mod_of_lt {n k : Nat} (hk : k ≤ 256) (hn : n < k) : (lowByte n).toNat % k = n := by
  rw [toNat_lowByte, Nat.mod_eq_of_lt (Nat.lt_of_lt_of_le hn hk), Nat.mod_eq_of_lt hn]

theorem wellFormed_iff (m : DriveRequest) :
    m.wellFormed = true ↔ m.tag < 64 ∧ m.cyl < 1024 ∧ m.head < 16 ∧ m.firstBlock < 32 ∧ m.count < 128 := by
  simp [DriveRequest.wellFormed, and_assoc]

/-- The request message of kind code `k` that carries every field of `m`. -/
def messageOf (k : Nat) (m : DriveRequest) : List Byte :=
  requestMessage k m.tag m.drive.val m.cyl m.head m.firstBlock m.count (flagsNat m.flags)

/-- The fields of `messageOf k m`, after the kind's byte, are those of `m`. -/
theorem requestFields_of_wellFormed (m : DriveRequest) (hm : m.wellFormed = true) :
    requestFields (lowByte m.tag) (lowByte (m.drive.val * 32 + m.cyl / 256)) (lowByte m.cyl) (lowByte m.head)
      (lowByte m.firstBlock) (lowByte m.count) (lowByte (flagsNat m.flags)) = m := by
  obtain ⟨htag, hcyl, hhead, hfirst, hcount⟩ := (wellFormed_iff m).1 hm
  unfold requestFields
  rw [lowByte_mod_of_lt (by decide) htag, driveOf_byteTwo m.drive hcyl, cylinder_of_bytes m.drive hcyl,
    lowByte_mod_of_lt (by decide) hhead, lowByte_mod_of_lt (by decide) hfirst, lowByte_mod_of_lt (by decide) hcount,
    flagsOf_flagsNat]

/-! ## The kind of request (11.2) -/

/-- The request of kind code `k` with the fields of `m` it uses. -/
def requestOfKind (k : Nat) (m : DriveRequest) : HostExchange :=
  match k with
  | 1 => .drive .readBlocks m
  | 2 => .drive .writeBlocks m
  | 3 => .drive .spareTrack m
  | 8 => .sense m.tag m.drive
  | 9 => .reserve m.tag m.drive
  | 10 => .release m.tag m.drive
  | 15 => .resetString m.tag
  | k => .unknown k m.tag

theorem readRequest_eight (b0 b1 b2 b3 b4 b5 b6 b7 : Byte) :
    readRequest [b0, b1, b2, b3, b4, b5, b6, b7] =
      some (requestOfKind (b0.toNat / 16) (requestFields b1 b2 b3 b4 b5 b6 b7)) := rfl

theorem requestOfKind_drive (kind : RequestKind) (m : DriveRequest) :
    requestOfKind (kindCodeOf kind) m = .drive kind m := by
  cases kind <;> rfl

theorem kindCodeOf_lt (kind : RequestKind) : kindCodeOf kind < 16 := by
  cases kind <;> decide

theorem requestOfKind_unknown {k : Nat} (hk : unknownKindCode k = true) (m : DriveRequest) :
    requestOfKind k m = .unknown k m.tag := by
  unfold requestOfKind
  split
  case h_8 => rfl
  all_goals exact absurd hk (by decide)

theorem lt_of_unknownKindCode {k : Nat} (hk : unknownKindCode k = true) : k < 16 := by
  simp only [unknownKindCode, Bool.and_eq_true, decide_eq_true_eq] at hk
  exact hk.1

/-! ## The message reads back (R186) -/

theorem readRequest_messageOf {k : Nat} (hk : k < 16) {m : DriveRequest} (hm : m.wellFormed = true) :
    readRequest (messageOf k m) = some (requestOfKind k m) := by
  have hkind : (lowByte (k * 16)).toNat / 16 = k := by
    rw [toNat_lowByte]
    omega
  rw [messageOf, requestMessage, readRequest_eight, hkind, requestFields_of_wellFormed m hm]

/-- A request whose message carries kind code `k` and the fields `m`, which name that request, reads back. -/
theorem readsBack_of_messageOf {x : HostExchange} {k : Nat} {m : DriveRequest} (hbytes : requestBytes x = messageOf k m)
    (hx : requestOfKind k m = x) (hk : k < 16) (hm : m.wellFormed = true) :
    (requestBytes x).length = 8 ∧ readRequest (requestBytes x) = some x := by
  rw [hbytes, readRequest_messageOf hk hm, hx]
  exact ⟨rfl, rfl⟩

theorem requestBytes_drive (kind : RequestKind) (m : DriveRequest) :
    requestBytes (.drive kind m) = messageOf (kindCodeOf kind) m := by
  cases kind <;> rfl

/-- The fields of a request that uses at most its tag and its drive. -/
def tagAndDrive (tag : Nat) (d : DriveNo) : DriveRequest :=
  ⟨tag, d, 0, 0, 0, 0, ⟨false, false, false, false, false, false⟩⟩

theorem tagAndDrive_wellFormed {tag : Nat} (h : tag < 64) (d : DriveNo) : (tagAndDrive tag d).wellFormed = true := by
  simp [wellFormed_iff, tagAndDrive, h]

/-- Settles O60: the message of every kind is its kind code and its fields, those that the kind does not use 0. -/
theorem requestMessageReadsBack : Obligations.RequestMessageReadsBack := by
  intro x hx
  cases x with
  | drive kind m =>
    exact readsBack_of_messageOf (requestBytes_drive kind m) (requestOfKind_drive kind m) (kindCodeOf_lt kind) hx
  | sense tag d =>
    exact readsBack_of_messageOf (k := 8) (m := tagAndDrive tag d) rfl rfl (by decide) (tagAndDrive_wellFormed hx d)
  | reserve tag d =>
    exact readsBack_of_messageOf (k := 9) (m := tagAndDrive tag d) rfl rfl (by decide) (tagAndDrive_wellFormed hx d)
  | release tag d =>
    exact readsBack_of_messageOf (k := 10) (m := tagAndDrive tag d) rfl rfl (by decide) (tagAndDrive_wellFormed hx d)
  | resetString tag =>
    exact readsBack_of_messageOf (k := 15) (m := tagAndDrive tag 0) rfl rfl (by decide) (tagAndDrive_wellFormed hx 0)
  | unknown code tag =>
    obtain ⟨hcode, htag⟩ := hx
    exact readsBack_of_messageOf (k := code) (m := tagAndDrive tag 0) rfl (requestOfKind_unknown hcode _)
      (lt_of_unknownKindCode hcode) (tagAndDrive_wellFormed htag 0)
  | collect => exact hx.elim

end Sys2Proof.Machine.LinkMessages

/-! SUPPORT. Proofs about the step: which command it runs, and on which queue. -/

namespace Sys2Proof.Machine.FrontCommand

/-- With a command waiting, the step is that command's `exec`; the command itself has left the queue. -/
theorem step_of_pending_cons {s : State} {c : Instr} {rest : List Instr} (h : s.pending = c :: rest) :
    step s = exec c { s with pending := rest } := by
  simp only [step, h]

/-- Settles O1: the queue of the state is the command and the rest, and putting the rest there leaves nothing of the
queue it had. -/
theorem stepTakesFrontCommand : Obligations.StepTakesFrontCommand := by
  intro c rest s
  exact step_of_pending_cons (s := { s with pending := c :: rest }) rfl

end Sys2Proof.Machine.FrontCommand
